-- ==== Sys2Proof/Word.lean ====
section
/-!
DEFINITION. The fixed-width words of the controller: 32-bit elements (rule R7), 3-bit opcodes and 35-bit command
words (rule R71), 3-bit status codes (rule R79) and 35-bit response words (rule R77).
-/

namespace Sys2Proof

/-- A data element, the operand field of a command, the result word (rule R7). Unsigned. -/
abbrev Word := BitVec 32

/-- The field `op` of a command (rule R71). -/
abbrev Opcode := BitVec 3

/-- A command word `op`, `arg` (rule R71). -/
abbrev CommandWord := BitVec 35

/-- The response register `resp_status` (rule R41, rule R79). -/
abbrev StatusCode := BitVec 3

/-- A response word `resp_status`, `resp_data` (rule R77). -/
abbrev ResponseWord := BitVec 35

end Sys2Proof
end

