-- ==== Sys2Proof/Config.lean ====
section
/-!
DEFINITION. What a build of the controller fixes (its parameter DEPTH_MAX, rule R6) and the free words, the values the
spec leaves open (93_implementation_defined.md U7 and U8).
-/

namespace Sys2Proof

/-- The parameter of a build. Rule R6: DEPTH_MAX is OPEN, so it is a record that the machine carries and no step
writes; statements quantify over it. DESIGN CHOICE, log 1. -/
structure Config where
  /-- `DEPTH_MAX`, the number of physical slots. -/
  depthMax : Nat
  deriving DecidableEq, Repr

/-- Rule R6: `1 <= DEPTH_MAX <= 2^32 - 1`. -/
abbrev Config.Legal (c : Config) : Prop := 1 ≤ c.depthMax ∧ c.depthMax ≤ 2 ^ 32 - 1

/-- The build that the spec's test vectors assume, DEPTH_MAX = 8 (rule R6, 95_test_vectors.md). DESIGN CHOICE, log 1:
the reset state of the model is this build's. -/
def Config.standard : Config := { depthMax := 8 }

/-- The ceiling of the base-two logarithm (of 1 and of 0 it is 0), for the widths of rule R7. -/
def clog2 (n : Nat) : Nat := if n ≤ 1 then 0 else (n - 1).log2 + 1

/-- Rule R7: `PTR_W`, the width of each cursor. -/
def Config.ptrW (c : Config) : Nat := max 1 (clog2 c.depthMax)

/-- Rule R7: `CNT_W`, the width of the capacity and occupancy registers. -/
def Config.cntW (c : Config) : Nat := clog2 (c.depthMax + 1)

/-- The free words: draw number `k` is some 32-bit word under no law (93_implementation_defined.md U7 and U8, `any
value`). It has no body, so no proof can see a value of it. Log 7. -/
opaque Config.freeWord : Nat → Word

/-- Draws `d`, `d + 1`, … `d + n - 1`. -/
def freeWords (d n : Nat) : List Word := (List.range n).map fun i => Config.freeWord (d + i)

end Sys2Proof
end

