-- ==== Sys2Proof/Machine/Operands.lean ====
section
/-!
DEFINITION. The fields of a command word and the operand forms the commands read from them (rule R71, rule R72).
-/

namespace Sys2Proof.Machine

/-- Rule R71: `op = cmd[34:32]`. -/
def opField (w : CommandWord) : Opcode := w.extractLsb' 32 3

/-- Rule R71: `arg = cmd[31:0]`. -/
def argField (w : CommandWord) : Word := w.extractLsb' 0 32

/-- Rule R71: the command word of the two ports `cmd_op` and `cmd_arg`, `op` in the more significant bits. -/
def commandWord (op : Opcode) (arg : Word) : CommandWord := (op ++ arg : BitVec (3 + 32))

/-- Rule R72: CONSTRUCT's requested capacity is `zext(arg)`, a count 0 .. 2^32-1. -/
def capacityOperand (arg : Word) : Nat := arg.toNat

/-- Rule R72: WRITE's element is `arg` unchanged, all 32 bits. -/
def valueOperand (arg : Word) : Word := arg

/-- The operand field that holds a requested capacity; the inverse of `capacityOperand` below 2^32. -/
def capacityArg (n : Nat) : Word := BitVec.ofNat 32 n

/-- `zext_32` of a register held as a natural number (rule R8); every register is below 2^32 (rule R31). -/
def zext32 (n : Nat) : Word := BitVec.ofNat 32 n

end Sys2Proof.Machine
end

