-- ==== Sys2Proof/Syntax.lean ====
section
/-!
DEFINITION. The commands, one constructor per row of spec/opcode_table.json (rule R74). The six commands that ignore
`arg` have no operand here: no value of it changes their effect or their response (rule R73).
-/

namespace Sys2Proof

/-- The command set (rule R74). -/
inductive Instr where
  /-- CONSTRUCT n: the requested capacity, a count of elements (rule R101, 90_conflicts.md C2). -/
  | construct (n : Nat)
  /-- DESTROY (rule R105). -/
  | destroy
  /-- ISFULL (rule R120). -/
  | isfull
  /-- ISEMPTY (rule R123). -/
  | isempty
  /-- WRITE v: the element, all 32 bits (rule R140). -/
  | write (v : Word)
  /-- READ (rule R145). -/
  | read
  /-- OCCUPANCY (rule R126). -/
  | occupancy
  /-- DUMP (rule R160). -/
  | dump
  deriving DecidableEq, Repr

end Sys2Proof
end

