-- ==== Sys2Proof/WellFormed.lean ====
section
/-!
DEFINITION. Which terms of `Instr` are commands of the controller: an operand is an unsigned integer in 0 .. 2^32-1
(rule R72, rule R81). WRITE's operand has 32 bits by its type; CONSTRUCT's is a count, so it is checked. Log 15.
-/

namespace Sys2Proof

/-- Rule R72: a requested capacity is a value 0 .. 2^32-1. -/
def Instr.wellFormed : Instr → Bool
  | .construct n => decide (n < 2 ^ 32)
  | .destroy => true
  | .isfull => true
  | .isempty => true
  | .write _ => true
  | .read => true
  | .occupancy => true
  | .dump => true

end Sys2Proof
end

