-- ==== Sys2Proof/Decode.lean ====
section
/-!
DEFINITION. The decoder (rule R77), total on the 35-bit command words, its form on a plain number, which rejects by
name what is no command word, and the encoder written from the same table (rule R71, rule R74).
-/

namespace Sys2Proof

open Sys2Proof.Machine

/-- The opcode map of rule R74, read from the right: which command an opcode and an operand are. All eight opcodes are
assigned (rule R75), and six commands ignore the operand (rule R73). -/
def decodeFields (op : Opcode) (arg : Word) : Instr :=
  match op.toFin with
  | 0 => .construct (capacityOperand arg)
  | 1 => .destroy
  | 2 => .isfull
  | 3 => .isempty
  | 4 => .write (valueOperand arg)
  | 5 => .read
  | 6 => .occupancy
  | 7 => .dump

/-- Rule R77: `decode`, a total function from a 35-bit word to a command. -/
def decode (w : CommandWord) : Instr := decodeFields (opField w) (argField w)

/-- Why a number is no command. -/
inductive DecodeError where
  /-- The number has a bit set above bit 34, so it is no 35-bit command word (rule R71). -/
  | notACommandWord
  deriving DecidableEq, Repr

/-- The decoder on a plain number. Every 35-bit word is a command (rule R75), and nothing else is. Log 16. -/
def decodeNumber (w : Nat) : Except DecodeError Instr :=
  if w < 2 ^ 35 then .ok (decode (BitVec.ofNat 35 w)) else .error .notACommandWord

/-- The command the decoder reads from a word of `nbits` bits, numbered as spec/opcode_table.json numbers them. Bits at
`nbits` and above are 0. Log 16. -/
def decodeTableWord (nbits w : Nat) : Option Instr :=
  match decodeNumber (w % 2 ^ nbits) with
  | .ok i => some i
  | .error _ => none

/-- Rule R74: the opcode of a command. -/
def opcodeOf : Instr → Opcode
  | .construct _ => 0
  | .destroy => 1
  | .isfull => 2
  | .isempty => 3
  | .write _ => 4
  | .read => 5
  | .occupancy => 6
  | .dump => 7

/-- The operand field of a command; 0 where the command ignores it (rule R73, and rule R83's words). -/
def argOf : Instr → Word
  | .construct n => capacityArg n
  | .destroy => 0
  | .isfull => 0
  | .isempty => 0
  | .write v => v
  | .read => 0
  | .occupancy => 0
  | .dump => 0

/-- Rule R71: the command word of a command, `op * 2^32 + arg`. -/
def encode (i : Instr) : CommandWord := commandWord (opcodeOf i) (argOf i)

end Sys2Proof
end

