-- ==== Sys2Proof/Machine/State.lean ====
section
/-!
DEFINITION. The state of the controller as plain data (10_state.md R20, R41), the model's own fields beside it, the
reasons a step can stop, and the state after reset (rule R42).
-/

namespace Sys2Proof.Machine

/-- Rule R21: the lifecycle state, a three-valued type. Log 11. -/
inductive Lifecycle where
  | uninit
  | active
  | destroyed
  deriving DecidableEq, Repr

/-- Rule R79: the outcomes of a command, success and the five errors. -/
inductive Status where
  | ok
  | invalidCapacity
  | allocationFailure
  | invalidState
  | bufferFull
  | bufferEmpty
  deriving DecidableEq, Repr

/-- Rule R70: what the host drives on the input ports across one rising edge of `clk`. -/
structure PortSample where
  rst : Bool
  cmdValid : Bool
  cmdOp : Opcode
  cmdArg : Word
  deriving DecidableEq, Repr

/-- The slot array (rule R27), the one address space of the controller (rule R50): the written slots as pairs of an
index and a 32-bit element, indices strictly rising. A slot that is not listed is ⊥, unwritten (rule R9). The cell is
one element and not one byte, because the array has no byte view (rule R52). Log 5, log 6. -/
abbrev Memory := List (Nat × Word)

/-- Why the machine stops with a fault. No step raises one in a state reached from reset. -/
inductive Fault where
  /-- READ met ⊥ at `mem[rd]` (rule R145, 93 U9: "it faults"). Raised by `slotRead`. Safe. -/
  | slotUnwritten
  /-- A slot index at or above DEPTH_MAX, a slot that does not exist (rule R50). Raised by `slotRead` and `slotWrite`.
  Safe. -/
  | slotAbsent
  /-- Lifecycle bits 0b11 (rule R21, 93 U11). Raised by the bit-level reader `Lifecycle.ofBits` only; no step raises
  it. Safe. -/
  | lifecycleIllegal
  /-- Status code 6 or 7 (rule R80, 93 U12). Raised by the host-side decoder `Status.ofCode` only; no step raises it.
  Safe. -/
  | statusReserved
  deriving DecidableEq, Repr

/-- Why the model gives a step no meaning. -/
inductive Refusal where
  /-- A command that has no meaning yet, by its mnemonic. Raised by the arms of `exec`. Safe. -/
  | notModelled (mnemonic : String)
  /-- A slot index at or above `cap` (rule R53: "A model refuses to take a step whose slot index is `>= cap`"). Raised
  by `slotRead` and `slotWrite`. Safe. -/
  | slotBeyondCapacity
  /-- A command before the first reset (rule R233, 93 U10). Raised by `clockEdge`. Safe. -/
  | neverReset
  /-- The host drives nothing more: the run has ended (rule R243). Raised by `stepOnce`. Safe. -/
  | endOfRun
  deriving DecidableEq, Repr

/-- The state. Rule R20: the five registers, the slot array and the response registers of rule R41. The last four
fields are the model's own. The registers are natural numbers, as rule R7 allows. Log 13. -/
structure State where
  /-- Rule R21: the lifecycle register. -/
  lc : Lifecycle
  /-- Rule R23: the capacity. -/
  cap : Nat
  /-- Rule R24: the occupancy. -/
  cnt : Nat
  /-- Rule R25: the write cursor. -/
  wr : Nat
  /-- Rule R26: the read cursor. -/
  rd : Nat
  /-- Rule R27: the slot array. -/
  mem : Memory
  /-- Rule R41: `resp_valid`. -/
  respValid : Bool
  /-- Rule R41: `resp_status`. -/
  respStatus : StatusCode
  /-- Rule R41: `resp_data`. -/
  respData : Word
  /-- Rule R41: `dump_slot[i]`, i from 0 to DEPTH_MAX-1. -/
  dumpSlot : List Word
  /-- Rule R41: `dump_live[i]`, i from 0 to DEPTH_MAX-1. -/
  dumpLive : List Bool
  /-- The model's own: the parameter of the build (rule R6). Log 1. -/
  cfg : Config
  /-- The model's own: the number of the next free word. Log 7. -/
  draws : Nat
  /-- The model's own: whether a reset edge has been seen since power-on (rule R43, rule R233). Log 9. -/
  wasReset : Bool
  /-- The model's own: what the host drives at the coming edges, the next edge first (rule R243: the model's input).
  Log 2. -/
  port : List PortSample
  deriving DecidableEq, Repr

/-- Rule R42: the state right after reset, of the build with DEPTH_MAX = 8, with nothing driven by the host yet.
`dump_slot` is unspecified (rule R41), so it holds free words. Log 1, log 2, log 7, log 8. -/
def State.reset : State where
  lc := .uninit
  cap := 0
  cnt := 0
  wr := 0
  rd := 0
  mem := []
  respValid := false
  respStatus := 0
  respData := 0
  dumpSlot := freeWords 0 Config.standard.depthMax
  dumpLive := List.replicate Config.standard.depthMax false
  cfg := Config.standard
  draws := Config.standard.depthMax
  wasReset := true
  port := []

end Sys2Proof.Machine
end

