-- ==== Sys2Proof/Machine/Flags.lean ====
section
/-!
DEFINITION. The classifications and the level outputs, all functions of the registers (rules R34, R35, R36, R239), and
the live mask (rule R162). No command writes a flag.
-/

namespace Sys2Proof.Machine

/-- Rule R34: `isFull(s) = (s.cnt = s.cap)`. Used in ACTIVE only. -/
def isFull (s : State) : Bool := decide (s.cnt = s.cap)

/-- Rule R34: `isEmpty(s) = (s.cnt = 0)`. Used in ACTIVE only. -/
def isEmpty (s : State) : Bool := decide (s.cnt = 0)

/-- Rule R36: `active_o`. -/
def activeO (s : State) : Bool := decide (s.lc = .active)

/-- Rule R35: `full_o`, 0 outside ACTIVE. -/
def fullO (s : State) : Bool := activeO s && isFull s

/-- Rule R35: `empty_o`, 0 outside ACTIVE. -/
def emptyO (s : State) : Bool := activeO s && isEmpty s

/-- Rule R36: `count_o[31:0] = zext_32(cnt)`. -/
def countO (s : State) : Word := zext32 s.cnt

/-- Rule R162: `live(i) = ((i - rd) mod cap) < cnt`, with the Euclidean remainder of rule R10. -/
def slotLive (s : State) (i : Nat) : Bool := decide (((i : Int) - (s.rd : Int)) % (s.cap : Int) < (s.cnt : Int))

end Sys2Proof.Machine
end

