-- ==== Sys2Proof/Machine/Ops.lean ====
section
/-!
DEFINITION. The named operations over the slot array, the registers and the ports that the commands and the clock edge
share: encodings of `lc` and `resp_status`, slot accesses, register updates, `respond` and `raise`, the reset and idle
edges, and what the host sees of a response.
-/

namespace Sys2Proof.Machine

/-! ### Encodings -/

/-- Rule R21: UNINIT = 0b00, ACTIVE = 0b01, DESTROYED = 0b10. -/
def Lifecycle.bits : Lifecycle → BitVec 2
  | .uninit => 0b00
  | .active => 0b01
  | .destroyed => 0b10

/-- Rule R21 and 93 U11: a bit-level reader of `lc`, which faults on 0b11. Log 11. -/
def Lifecycle.ofBits (b : BitVec 2) : Host.Outcome Lifecycle Fault Refusal :=
  match b.toFin with
  | 0 => .next .uninit
  | 1 => .next .active
  | 2 => .next .destroyed
  | 3 => .fault .lifecycleIllegal

/-- Rule R79: the status codes. -/
def Status.code : Status → StatusCode
  | .ok => 0
  | .invalidCapacity => 1
  | .allocationFailure => 2
  | .invalidState => 3
  | .bufferFull => 4
  | .bufferEmpty => 5

/-- Rule R80 and 93 U12: the host-side decoder of `resp_status`, which faults on the reserved codes. Log 12. -/
def Status.ofCode (c : StatusCode) : Host.Outcome Status Fault Refusal :=
  match c.toFin with
  | 0 => .next .ok
  | 1 => .next .invalidCapacity
  | 2 => .next .allocationFailure
  | 3 => .next .invalidState
  | 4 => .next .bufferFull
  | 5 => .next .bufferEmpty
  | 6 => .fault .statusReserved
  | 7 => .fault .statusReserved

/-! ### The slot array -/

/-- The element in slot `i`, or `none` for ⊥ (rule R9). -/
def Memory.read : Memory → Nat → Option Word
  | [], _ => none
  | (j, w) :: m, i => if i = j then some w else Memory.read m i

/-- Put `v` into slot `i` (rule R51), keeping the indices strictly rising. -/
def Memory.write : Memory → Nat → Word → Memory
  | [], i, v => [(i, v)]
  | (j, w) :: m, i, v =>
    if i < j then (i, v) :: (j, w) :: m
    else if i = j then (i, v) :: m
    else (j, w) :: Memory.write m i v

/-- The canonical form: indices strictly rise. No entry can equal what an unlisted slot reads as, since that is ⊥. -/
def Memory.wf (m : Memory) : Bool := decide (m.Pairwise fun a b => a.1 < b.1)

/-- `MemRead(i, 4)` of rule R9, with the model's assertions: rule R53 refuses an index at or above `cap`, an index at or
above DEPTH_MAX names no slot (rule R50), and ⊥ faults (rule R145). Log 6, log 10. -/
def slotRead (i : Nat) (s : State) : Host.Outcome Word Fault Refusal :=
  if s.cap ≤ i then .refused .slotBeyondCapacity
  else if s.cfg.depthMax ≤ i then .fault .slotAbsent
  else match s.mem.read i with
    | some v => .next v
    | none => .fault .slotUnwritten

/-- `MemWrite(i, 4, v)` of rule R9: the slot array after it, with the assertions of `slotRead`. Log 10. -/
def slotWrite (i : Nat) (v : Word) (s : State) : Host.Outcome Memory Fault Refusal :=
  if s.cap ≤ i then .refused .slotBeyondCapacity
  else if s.cfg.depthMax ≤ i then .fault .slotAbsent
  else .next (s.mem.write i v)

/-- What an access gives is handed on; a fault or a refusal stops. -/
def andThen {α : Type} (x : Host.Outcome α Fault Refusal) (f : α → Host.Outcome State Fault Refusal) :
    Host.Outcome State Fault Refusal :=
  match x with
  | .next a => f a
  | .fault r => .fault r
  | .refused r => .refused r

/-! ### Register updates -/

/-- The slot index after `i`, circularly: `(i + 1) mod cap` (rule R25, rule R26). -/
def nextSlot (i cap : Nat) : Nat := (i + 1) % cap

/-- Rule R236: the response registers take a status code and a result word, and `resp_valid` becomes 1. -/
def State.loadResponse (s : State) (c : StatusCode) (data : Word) : State :=
  { s with respValid := true, respStatus := c, respData := data }

/-- Rule R101: the registers of a fresh buffer of `n` slots, every slot ⊥. -/
def State.openBuffer (s : State) (n : Nat) : State :=
  { s with cap := n, cnt := 0, wr := 0, rd := 0, lc := .active, mem := [] }

/-- Rule R105: the registers of a buffer torn down, every slot ⊥. -/
def State.closeBuffer (s : State) : State :=
  { s with cap := 0, cnt := 0, wr := 0, rd := 0, lc := .destroyed, mem := [] }

/-- Rule R140: the slot array `m` holds one more element, and `wr` moves on. -/
def State.claimSlot (s : State) (m : Memory) : State :=
  { s with mem := m, wr := nextSlot s.wr s.cap, cnt := s.cnt + 1 }

/-- Rule R145: the oldest element is consumed, and `rd` moves on, forward (90_conflicts.md C1). No slot is cleared. -/
def State.releaseSlot (s : State) : State :=
  { s with rd := nextSlot s.rd s.cap, cnt := s.cnt - 1 }

/-- Rule R160: what DUMP shows for slot `i`: its raw content below `cap` if it was written, else a draw of its own (rules
R161 and R165). -/
def snapshotWord (s : State) (i : Nat) : Word :=
  if i < s.cap then (s.mem.read i).getD (Config.freeWord (s.draws + i)) else Config.freeWord (s.draws + i)

/-- Rule R160: the live bit DUMP shows for slot `i`: the live mask below `cap`, else 0. -/
def snapshotLive (s : State) (i : Nat) : Bool := decide (i < s.cap) && slotLive s i

/-- Rule R160: the snapshot registers take all DEPTH_MAX entries. DEPTH_MAX draws are used up, one a slot, so that each
slot and each DUMP has its own (rule R161). -/
def State.loadSnapshot (s : State) : State :=
  { s with
    dumpSlot := (List.range s.cfg.depthMax).map (snapshotWord s)
    dumpLive := (List.range s.cfg.depthMax).map (snapshotLive s)
    draws := s.draws + s.cfg.depthMax }

/-! ### Outcomes of a command -/

/-- Rule R11: `respond(status, data)`, which ends every command. -/
def respond (e : Status) (data : Word) (s : State) : Host.Outcome State Fault Refusal :=
  .next (s.loadResponse e.code data)

/-- Rule R11: `raise E`, the one way an error is taken: `respond(E, 0)` with no other state write (rule R202). It saves
no state, changes no mode and goes to no handler (rule R207), and there is no return from it (rule R208). -/
def raise (e : Status) (s : State) : Host.Outcome State Fault Refusal := respond e 0 s

/-- Rule R201: outside ACTIVE a command fails with INVALID_STATE, before any other check (rule R205). -/
def whenActive (s : State) (body : Host.Outcome State Fault Refusal) : Host.Outcome State Fault Refusal :=
  if s.lc = .active then body else raise .invalidState s

/-! ### The reset and idle edges -/

/-- Rule R230: the state after an edge with `rst = 1`, from any state. `dump_slot` is unspecified after it (rule R41, 93
U8), so it takes fresh draws. Log 8. -/
def resetEdge (s : State) : State :=
  { s with
    lc := .uninit
    cap := 0
    cnt := 0
    wr := 0
    rd := 0
    mem := []
    respValid := false
    respStatus := 0
    respData := 0
    dumpSlot := freeWords s.draws s.cfg.depthMax
    dumpLive := List.replicate s.cfg.depthMax false
    draws := s.draws + s.cfg.depthMax
    wasReset := true }

/-- Rule R237: the state after an edge with `rst = 0` and `cmd_valid = 0`. Log 3, log 4. -/
def idleEdge (s : State) : State := { s with respValid := false }

/-! ### What the host sees -/

/-- Rule R77: the response word `resp_status`, `resp_data`. -/
def responseWord (s : State) : ResponseWord := (s.respStatus ++ s.respData : BitVec (3 + 32))

/-- Rule R238 and 93 U13: the response the host may read, which is there only while `resp_valid = 1`. Log 4. -/
def visibleResponse (s : State) : Option ResponseWord := if s.respValid then some (responseWord s) else none

end Sys2Proof.Machine
end

