-- ==== Sys2Proof/Machine/DataCommands.lean ====
section
/-!
DEFINITION. The data commands WRITE and READ (42_data.md).
-/

namespace Sys2Proof.Machine

/-- WRITE v (rule R140): slot `wr` takes `v`, unless the buffer is full. -/
def execWrite (v : Word) (s : State) : Host.Outcome State Fault Refusal :=
  whenActive s <|
    if isFull s then raise .bufferFull s
    else andThen (slotWrite s.wr v s) fun m => respond .ok 0 (s.claimSlot m)

/-- READ (rule R145): the element in slot `rd` is the result, unless the buffer is empty. -/
def execRead (s : State) : Host.Outcome State Fault Refusal :=
  whenActive s <|
    if isEmpty s then raise .bufferEmpty s
    else andThen (slotRead s.rd s) fun v => respond .ok v s.releaseSlot

end Sys2Proof.Machine
end

