-- ==== Sys2Proof/Machine/DiagnosticCommands.lean ====
section
/-!
DEFINITION. The diagnostic command DUMP (43_diagnostic.md).
-/

namespace Sys2Proof.Machine

/-- DUMP (rule R160): the snapshot registers are loaded, and the result is the snapshot's length `cap`. -/
def execDump (s : State) : Host.Outcome State Fault Refusal :=
  whenActive s (respond .ok (zext32 s.cap) s.loadSnapshot)

end Sys2Proof.Machine
end

