-- ==== Sys2Proof/Machine/LifecycleCommands.lean ====
section
/-!
DEFINITION. The lifecycle commands CONSTRUCT and DESTROY (40_lifecycle.md).
-/

namespace Sys2Proof.Machine

/-- CONSTRUCT n (rule R101), its checks in the order of rule R104. -/
def execConstruct (n : Nat) (s : State) : Host.Outcome State Fault Refusal :=
  if s.lc ≠ .uninit then raise .invalidState s
  else if n = 0 then raise .invalidCapacity s
  else if s.cfg.depthMax < n then raise .allocationFailure s
  else respond .ok 0 (s.openBuffer n)

/-- DESTROY (rule R105), whatever the occupancy. -/
def execDestroy (s : State) : Host.Outcome State Fault Refusal :=
  whenActive s (respond .ok 0 s.closeBuffer)

end Sys2Proof.Machine
end

