-- ==== Sys2Proof/Machine/QueryCommands.lean ====
section
/-!
DEFINITION. The query commands ISFULL, ISEMPTY and OCCUPANCY (41_query.md). None of them writes any state but the
response registers.
-/

namespace Sys2Proof.Machine

/-- ISFULL (rule R120): 1 = Full, 0 = CanWrite (rule R78). -/
def execIsfull (s : State) : Host.Outcome State Fault Refusal :=
  whenActive s (respond .ok (if isFull s then 1 else 0) s)

/-- ISEMPTY (rule R123): 1 = Empty, 0 = CanRead (rule R78). -/
def execIsempty (s : State) : Host.Outcome State Fault Refusal :=
  whenActive s (respond .ok (if isEmpty s then 1 else 0) s)

/-- OCCUPANCY (rule R126): the counter, never computed from the cursors. -/
def execOccupancy (s : State) : Host.Outcome State Fault Refusal :=
  whenActive s (respond .ok (zext32 s.cnt) s)

end Sys2Proof.Machine
end

