-- ==== Sys2Proof/Machine/Dispatch.lean ====
section
/-!
DEFINITION. One arm per command: its meaning (rule R236: the controller performs the command's rule as one step).
-/

namespace Sys2Proof.Machine

def exec (i : Instr) (s : State) : Host.Outcome State Fault Refusal :=
  match i with
  | .construct n => Sys2Proof.Machine.execConstruct n s
  | .destroy => Sys2Proof.Machine.execDestroy s
  | .isfull => Sys2Proof.Machine.execIsfull s
  | .isempty => Sys2Proof.Machine.execIsempty s
  | .write v => Sys2Proof.Machine.execWrite v s
  | .read => Sys2Proof.Machine.execRead s
  | .occupancy => Sys2Proof.Machine.execOccupancy s
  | .dump => Sys2Proof.Machine.execDump s

end Sys2Proof.Machine
end

