-- ==== Sys2Proof/Machine/Port.lean ====
section
/-!
DEFINITION. The ports of rule R70: what one rising edge does with the inputs the host drives across it (rules R230,
R231, R236, R237), the samples the host drives to present a command, and the outputs.
-/

namespace Sys2Proof.Machine

/-- The command a sample presents (rule R236): `decode({cmd_op, cmd_arg})`. -/
def PortSample.command (p : PortSample) : Instr := decode (commandWord p.cmdOp p.cmdArg)

/-- One rising edge. `rst = 1` wins over a command (rule R231); else `cmd_valid = 1` has the command performed (rule
R236), which a model refuses before the first reset (rule R233, log 9); else the edge is idle (rule R237). -/
def clockEdge (p : PortSample) (s : State) : Host.Outcome State Fault Refusal :=
  if p.rst then .next (resetEdge s)
  else if p.cmdValid then
    if s.wasReset then exec p.command s else .refused .neverReset
  else .next (idleEdge s)

/-- The next edge: the sample the host drives for it is used up. The run ends with the last one (rule R243, log 2). -/
def stepOnce (s : State) : Host.Outcome State Fault Refusal :=
  match s.port with
  | [] => .refused .endOfRun
  | p :: rest => clockEdge p { s with port := rest }

/-- The sample that presents a command word: `rst = 0`, `cmd_valid = 1`, and the word on `cmd_op` and `cmd_arg`. -/
def PortSample.ofWord (w : CommandWord) : PortSample :=
  { rst := false, cmdValid := true, cmdOp := opField w, cmdArg := argField w }

/-- The host presents the command word `w` at the next edge, in place of what it drove there. Log 2. -/
def State.present (s : State) (w : CommandWord) : State := { s with port := PortSample.ofWord w :: s.port.tail }

/-- The output ports of rule R70. -/
structure PortOutputs where
  respValid : Bool
  respStatus : StatusCode
  respData : Word
  dumpSlot : List Word
  dumpLive : List Bool
  full : Bool
  empty : Bool
  active : Bool
  count : Word
  deriving DecidableEq, Repr

/-- What the controller drives on its output ports just after the edge that left state `s` (rules R238 and R239). -/
def outputs (s : State) : PortOutputs :=
  { respValid := s.respValid
    respStatus := s.respStatus
    respData := s.respData
    dumpSlot := s.dumpSlot
    dumpLive := s.dumpLive
    full := fullO s
    empty := emptyO s
    active := activeO s
    count := countO s }

end Sys2Proof.Machine
end

