-- ==== Sys2Proof/Machine/Step.lean ====
section
/-!
DEFINITION. The step of the machine, one rising edge of `clk`, and how a command word is put where it reads its next
command.
-/

namespace Sys2Proof.Machine

/-- One rising edge of `clk`, with the next sample the host drives. -/
def step (s : State) : Host.Outcome State Fault Refusal := stepOnce s

/-- The state in which the host presents, at the next edge, the command word whose bits are `w`; bits at `nbits` and
above are 0. Log 2, log 16. -/
def State.withFetchWord (s : State) (nbits w : Nat) : State := s.present (BitVec.ofNat 35 (w % 2 ^ nbits))

end Sys2Proof.Machine
end

