-- ==== Sys2Proof/Machine/Text.lean ====
section
/-!
DEFINITION. The textual syntax of commands and expected responses (rules R81 and R82): a reader of one line, and a
writer of one command. No step uses it. Log 18.
-/

namespace Sys2Proof.Machine

/-- The mnemonic of a command (rule R74), upper case (rule R81). -/
def mnemonicText : Instr → List Char
  | .construct _ => ['C', 'O', 'N', 'S', 'T', 'R', 'U', 'C', 'T']
  | .destroy => ['D', 'E', 'S', 'T', 'R', 'O', 'Y']
  | .isfull => ['I', 'S', 'F', 'U', 'L', 'L']
  | .isempty => ['I', 'S', 'E', 'M', 'P', 'T', 'Y']
  | .write _ => ['W', 'R', 'I', 'T', 'E']
  | .read => ['R', 'E', 'A', 'D']
  | .occupancy => ['O', 'C', 'C', 'U', 'P', 'A', 'N', 'C', 'Y']
  | .dump => ['D', 'U', 'M', 'P']

/-- Two words joined by `_`, as rule R79 spells a status of two words. -/
def joinWords (first second : List Char) : List Char := first ++ '_' :: second

/-- The first word of two status names. -/
def invalidWord : List Char := ['I', 'N', 'V', 'A', 'L', 'I', 'D']

/-- The first word of two status names. -/
def bufferWord : List Char := ['B', 'U', 'F', 'F', 'E', 'R']

/-- The name of a status (rule R79). -/
def statusText : Status → List Char
  | .ok => ['O', 'K']
  | .invalidCapacity => joinWords invalidWord ['C', 'A', 'P', 'A', 'C', 'I', 'T', 'Y']
  | .allocationFailure => joinWords ['A', 'L', 'L', 'O', 'C', 'A', 'T', 'I', 'O', 'N'] ['F', 'A', 'I', 'L', 'U', 'R', 'E']
  | .invalidState => joinWords invalidWord ['S', 'T', 'A', 'T', 'E']
  | .bufferFull => joinWords bufferWord ['F', 'U', 'L', 'L']
  | .bufferEmpty => joinWords bufferWord ['E', 'M', 'P', 'T', 'Y']

/-- The mark before an expected response (rule R81). -/
def arrowText : List Char := ['-', '>']

/-! ### Reading -/

/-- The digits of rule R81's literals by value, decimal ones first; the writer uses these. -/
def digitChars : List Char := "0123456789ABCDEF".toList

/-- The same digits with small letters, which the reader takes too (log 18). -/
def smallDigitChars : List Char := "0123456789abcdef".toList

/-- The value of a digit character: its place among the digits. -/
def digitValue (c : Char) : Option Nat :=
  (digitChars.idxOf? c).or (smallDigitChars.idxOf? c)

/-- The digits of a number in `base`, most significant first, after the digits that gave `acc`. -/
def readDigits (base acc : Nat) : List Char → Option Nat
  | [] => some acc
  | c :: cs =>
    match digitValue c with
    | some d => if d < base then readDigits base (acc * base + d) cs else none
    | none => none

/-- An unsigned integer literal in decimal or `0x` hexadecimal (rule R81); in a hexadecimal one `_` separates digit
groups with no meaning (rule R8). -/
def readLiteral : List Char → Option Nat
  | [] => none
  | '0' :: 'x' :: ds =>
    match ds.filter (· ≠ '_') with
    | [] => none
    | ds' => readDigits 16 0 ds'
  | ds => readDigits 10 0 ds

/-- An operand: a literal in 0 .. 2^32-1 (rule R81). -/
def readOperand (cs : List Char) : Option Nat :=
  match readLiteral cs with
  | some n => if n < 2 ^ 32 then some n else none
  | none => none

/-- The words of a line, separated by spaces and tabs; `word` is the word read so far, last character first. -/
def splitWords (word : List Char) : List Char → List (List Char)
  | [] => if word = [] then [] else [word.reverse]
  | c :: cs =>
    if c = ' ' ∨ c = '\t' then
      if word = [] then splitWords [] cs else word.reverse :: splitWords [] cs
    else splitWords (c :: word) cs

/-- A command: a mnemonic, then one operand for CONSTRUCT and WRITE only (rule R81). An operand on another command is a
syntax error (rule R82), and so is anything else. -/
def readCommand : List (List Char) → Option Instr
  | [m] =>
    if m = mnemonicText .destroy then some .destroy
    else if m = mnemonicText .isfull then some .isfull
    else if m = mnemonicText .isempty then some .isempty
    else if m = mnemonicText .read then some .read
    else if m = mnemonicText .occupancy then some .occupancy
    else if m = mnemonicText .dump then some .dump
    else none
  | [m, x] =>
    match readOperand x with
    | some n =>
      if m = mnemonicText (.construct n) then some (.construct n)
      else if m = mnemonicText (.write (BitVec.ofNat 32 n)) then some (.write (BitVec.ofNat 32 n))
      else none
    | none => none
  | _ => none

/-- An expected response: a status and, where it is written, the result word (rule R81). -/
structure Expectation where
  status : Status
  data : Option Word
  deriving DecidableEq, Repr

/-- The status names of rule R79. -/
def readStatus (cs : List Char) : Option Status :=
  if cs = statusText .ok then some .ok
  else if cs = statusText .invalidCapacity then some .invalidCapacity
  else if cs = statusText .allocationFailure then some .allocationFailure
  else if cs = statusText .invalidState then some .invalidState
  else if cs = statusText .bufferFull then some .bufferFull
  else if cs = statusText .bufferEmpty then some .bufferEmpty
  else none

/-- What stands after `->` (rule R81). DESIGN CHOICE: the data is read as an operand is, decimal or `0x` hexadecimal with
`_`, although rule R81 gives these forms for the operand only and shows data in decimal. Log 18. -/
def readExpectation : List (List Char) → Option Expectation
  | [e] => (readStatus e).map fun st => { status := st, data := none }
  | [e, x] =>
    match readStatus e, readOperand x with
    | some st, some n => some { status := st, data := some (BitVec.ofNat 32 n) }
    | _, _ => none
  | _ => none

/-- One line: a command and, after `->`, the expected response; a `;` starts a comment to the end of the line (rule
R81). -/
def readLine (line : List Char) : Option (Instr × Option Expectation) :=
  let words := splitWords [] (line.takeWhile (· ≠ ';'))
  let after := words.dropWhile (· ≠ arrowText)
  match readCommand (words.takeWhile (· ≠ arrowText)), after with
  | some i, [] => some (i, none)
  | some i, _ :: e => (readExpectation e).map fun x => (i, some x)
  | none, _ => none

/-! ### Writing -/

/-- The last `k` hexadecimal digits of `n`, most significant first. -/
def hexDigits (n : Nat) : Nat → List Char
  | 0 => []
  | k + 1 => digitChars.getD (n / 16 ^ k % 16) '0' :: hexDigits n k

/-- An operand as `0x` and eight hexadecimal digits. -/
def operandText (n : Nat) : List Char := '0' :: 'x' :: hexDigits n 8

/-- A command as text (rule R81). -/
def commandText (i : Instr) : List Char :=
  match i with
  | .construct n => mnemonicText i ++ ' ' :: operandText n
  | .write v => mnemonicText i ++ ' ' :: operandText v.toNat
  | .destroy => mnemonicText i
  | .isfull => mnemonicText i
  | .isempty => mnemonicText i
  | .read => mnemonicText i
  | .occupancy => mnemonicText i
  | .dump => mnemonicText i

end Sys2Proof.Machine
end

