-- ==== Sys2Proof/Safety.lean ====
section
/-!
DEFINITION. The terms of the claims: the invariant of the states that a reset has reached (rules R29, R31, R32, R33,
R80), reachability (rule R243), the abstract queue (rule R33) and the abstract FIFO that the controller implements, and
the responses to a list of commands.
-/

namespace Sys2Proof.Machine

/-- What holds in every state that a reset has reached. -/
structure State.Inv (s : State) : Prop where
  /-- Rule R6: the build's parameter is legal. -/
  cfg_legal : s.cfg.Legal
  /-- Rule R233: a reset edge has been seen. -/
  was_reset : s.wasReset = true
  /-- Rule R31: `cap <= DEPTH_MAX`. -/
  cap_le : s.cap ≤ s.cfg.depthMax
  /-- Rule R31: `cnt <= cap`. -/
  cnt_le : s.cnt ≤ s.cap
  /-- Rules R29 and R31: in ACTIVE, `1 <= cap` and both cursors lie below `cap`. -/
  active_range : s.lc = .active → 1 ≤ s.cap ∧ s.wr < s.cap ∧ s.rd < s.cap
  /-- Rules R29 and R31: outside ACTIVE the four registers are 0. -/
  inactive_zero : s.lc ≠ .active → s.cap = 0 ∧ s.cnt = 0 ∧ s.wr = 0 ∧ s.rd = 0
  /-- Rule R32: the cursor relation. -/
  cursor_relation : s.lc = .active → s.wr = (s.rd + s.cnt) % s.cap
  /-- The slot array is in its canonical form. -/
  mem_wf : s.mem.wf = true
  /-- Rule R27: only slots below `cap` have been written. -/
  mem_below_cap : ∀ c ∈ s.mem, c.1 < s.cap
  /-- Rule R33: every live slot holds a value, never ⊥. -/
  live_written : ∀ k < s.cnt, (s.mem.read ((s.rd + k) % s.cap)).isSome = true
  /-- Rule R80: the reserved status codes are never driven. -/
  status_driven : s.respStatus ≠ 6 ∧ s.respStatus ≠ 7
  /-- Rule R78: the result word of an error is 0. -/
  error_data : s.respStatus ≠ 0 → s.respData = 0
  /-- Rule R41: one snapshot slot for each of the DEPTH_MAX slots. -/
  dump_slot_length : s.dumpSlot.length = s.cfg.depthMax
  /-- Rule R41: one live bit for each of the DEPTH_MAX slots. -/
  dump_live_length : s.dumpLive.length = s.cfg.depthMax

/-- Rule R243: the states of a run, which begins with a reset edge from any state of a legal build, with any list of
samples still to come from the host. -/
inductive Reachable : State → Prop where
  | reset (s : State) (legal : s.cfg.Legal) : Reachable (resetEdge s)
  | step (s t : State) (before : Reachable s) (taken : Sys2Proof.Machine.step s = .next t) : Reachable t

/-- Rule R33: the abstract queue, oldest element first. Slots that hold ⊥ are left out; an invariant says there is none
among the live ones. -/
def queue (s : State) : List Word := (List.range s.cnt).filterMap fun k => s.mem.read ((s.rd + k) % s.cap)

/-- The abstract FIFO: a bounded queue with the lifecycle of rule R22, no cursors, no slots. -/
structure Fifo where
  lc : Lifecycle
  cap : Nat
  queue : List Word
  deriving DecidableEq, Repr

/-- What the controller's state stands for. -/
def abstraction (s : State) : Fifo := { lc := s.lc, cap := s.cap, queue := queue s }

/-- A command of the abstract FIFO on storage of `depth` elements: the state after it, the status code and the result
word (rules R78, R79, R201, R203). -/
def Fifo.command (depth : Nat) (i : Instr) (a : Fifo) : Fifo × StatusCode × Word :=
  match i with
  | .construct n =>
    if a.lc ≠ .uninit then (a, 3, 0)
    else if n = 0 then (a, 1, 0)
    else if n > depth then (a, 2, 0)
    else ({ lc := .active, cap := n, queue := [] }, 0, 0)
  | .destroy => if a.lc = .active then ({ lc := .destroyed, cap := 0, queue := [] }, 0, 0) else (a, 3, 0)
  | .isfull => if a.lc = .active then (a, 0, if a.queue.length = a.cap then 1 else 0) else (a, 3, 0)
  | .isempty => if a.lc = .active then (a, 0, if a.queue = [] then 1 else 0) else (a, 3, 0)
  | .write v =>
    if a.lc = .active then
      if a.queue.length = a.cap then (a, 4, 0) else ({ a with queue := a.queue ++ [v] }, 0, 0)
    else (a, 3, 0)
  | .read =>
    if a.lc = .active then
      match a.queue with
      | [] => (a, 5, 0)
      | v :: q => ({ a with queue := q }, 0, v)
    else (a, 3, 0)
  | .occupancy => if a.lc = .active then (a, 0, BitVec.ofNat 32 a.queue.length) else (a, 3, 0)
  | .dump => if a.lc = .active then (a, 0, BitVec.ofNat 32 a.cap) else (a, 3, 0)

/-- The responses (status code and result word) to a list of commands, one after the other, and the state they leave;
`none` if one of them stops. -/
def answers : List Instr → State → Option (List (StatusCode × Word) × State)
  | [], s => some ([], s)
  | i :: is, s =>
    match exec i s with
    | .next t => (answers is t).map fun r => ((t.respStatus, t.respData) :: r.1, r.2)
    | .fault _ => none
    | .refused _ => none

/-- The elements accepted by the successful WRITEs among commands and their responses, in order. -/
def acceptedWrites (is : List Instr) (rs : List (StatusCode × Word)) : List Word :=
  (is.zip rs).filterMap fun p =>
    match p.1 with
    | .write v => if p.2.1 = 0 then some v else none
    | _ => none

/-- The elements returned by the successful READs among commands and their responses, in order. -/
def returnedReads (is : List Instr) (rs : List (StatusCode × Word)) : List Word :=
  (is.zip rs).filterMap fun p =>
    match p.1 with
    | .read => if p.2.1 = 0 then some p.2.2 else none
    | _ => none

/-- The sample by which the host presents a command. -/
def presenting (i : Instr) : PortSample := PortSample.ofWord (encode i)

end Sys2Proof.Machine
end

