-- ==== Sys2Proof/Certificates/Slice0/Obligations.lean ====
section
/-!
DEFINITION. The statements for the provers. Nothing is proved here. A statement's docstring names the rule of spec/ it
formalises, or says that it is about a choice of the model and names the log entry.
-/

open Sys2Proof Sys2Proof.Machine

/-! ### Words and text -/

/-- Rule R83: the words of the spec's commands, and the decodings of 95_test_vectors.md L2.1. -/
def Obligations.CommandWordsOfTheSpec : Prop :=
  (encode (.construct 4) = 0x000000004 ∧ encode (.construct 0) = 0x000000000 ∧ encode .destroy = 0x100000000 ∧
    encode .isfull = 0x200000000 ∧ encode .isempty = 0x300000000 ∧ encode (.write 10) = 0x40000000A ∧
    encode (.write 0xFFFFFFFF) = 0x4FFFFFFFF ∧ encode .read = 0x500000000 ∧ encode .occupancy = 0x600000000 ∧
    encode .dump = 0x700000000) ∧
  (decode 0x000000004 = .construct 4 ∧ decode 0x000000000 = .construct 0 ∧ decode 0x0FFFFFFFF = .construct 4294967295 ∧
    decode 0x1FFFFFFFF = .destroy ∧ decode 0x200000001 = .isfull ∧ decode 0x380000000 = .isempty ∧
    decode 0x40000000A = .write 10 ∧ decode 0x4FFFFFFFF = .write 4294967295 ∧ decode 0x512345678 = .read ∧
    decode 0x600000001 = .occupancy ∧ decode 0x7ABCD0123 = .dump)

/-- Rule R74: the opcode map, and the mask and match of each row of the machine-readable table. -/
def Obligations.OpcodeMap : Prop :=
  (∀ arg : Word,
    decode (commandWord 0 arg) = .construct arg.toNat ∧
    decode (commandWord 1 arg) = .destroy ∧
    decode (commandWord 2 arg) = .isfull ∧
    decode (commandWord 3 arg) = .isempty ∧
    decode (commandWord 4 arg) = .write arg ∧
    decode (commandWord 5 arg) = .read ∧
    decode (commandWord 6 arg) = .occupancy ∧
    decode (commandWord 7 arg) = .dump) ∧
  (∀ w : CommandWord, (w &&& 0x700000000).toNat = (opcodeOf (decode w)).toNat * 2 ^ 32)

/-- Rule R71's format: `word = op * 2^32 + arg`, of 35 bits, and every word is of this form. -/
def Obligations.CommandWordFormat : Prop :=
  (∀ (op : Opcode) (arg : Word), (commandWord op arg).toNat = op.toNat * 2 ^ 32 + arg.toNat) ∧
  (∀ w : CommandWord, commandWord (opField w) (argField w) = w)

/-- Rule R73: no value of `arg` changes the effect or the response of the six commands that ignore it. -/
def Obligations.IgnoredOperandNeverMatters : Prop :=
  ∀ (op : Opcode) (a b : Word) (s : State), op ≠ 0 → op ≠ 4 →
    clockEdge { rst := false, cmdValid := true, cmdOp := op, cmdArg := a } s =
      clockEdge { rst := false, cmdValid := true, cmdOp := op, cmdArg := b } s

/-- Decode and encode agree on every well-formed command, at every operand (30_encoding.md). -/
def Obligations.DecodeAfterEncode : Prop := ∀ i : Instr, i.wellFormed = true → decode (encode i) = i

/-- Encode and decode agree on every word, up to the operand of a command that ignores it; every word is a well-formed
command (30_encoding.md). -/
def Obligations.EncodeAfterDecode : Prop :=
  ∀ w : CommandWord,
    (decode w).wellFormed = true ∧ opField (encode (decode w)) = opField w ∧
    (opField w = 0 ∨ opField w = 4 → encode (decode w) = w) ∧
    (opField w ≠ 0 → opField w ≠ 4 → argField (encode (decode w)) = 0)

/-- The response word of rule R77, and who may read it (rule R238; the model's view, log 4). -/
def Obligations.ResponseWordFormat : Prop :=
  ∀ s : State,
    (responseWord s).toNat = s.respStatus.toNat * 2 ^ 32 + s.respData.toNat ∧
    (s.respValid = true → visibleResponse s = some (responseWord s)) ∧
    (s.respValid = false → visibleResponse s = none)

/-- Rule R21: the encoding of `lc`; 0b11 is no value of it, and a bit-level reader faults there. -/
def Obligations.LifecycleEncoding : Prop :=
  Lifecycle.bits .uninit = 0b00 ∧ Lifecycle.bits .active = 0b01 ∧ Lifecycle.bits .destroyed = 0b10 ∧
  (∀ l : Lifecycle, l.bits ≠ 0b11 ∧ Lifecycle.ofBits l.bits = .next l) ∧
  Lifecycle.ofBits 0b11 = .fault .lifecycleIllegal

/-- Rule R80: the reserved status codes are never driven, and the host-side decoder faults on them. -/
def Obligations.ReservedStatusNeverDriven : Prop :=
  (∀ s : State, Reachable s → s.respStatus ≠ 6 ∧ s.respStatus ≠ 7) ∧
  (∀ (i : Instr) (s t : State), exec i s = .next t → t.respStatus ≠ 6 ∧ t.respStatus ≠ 7) ∧
  Status.ofCode 6 = .fault .statusReserved ∧ Status.ofCode 7 = .fault .statusReserved ∧
  (∀ e : Status, Status.ofCode e.code = .next e)

/-- Every well-formed command, written out as a line of text, reads back as itself (30_encoding.md, Assembler syntax; the
spelling of the operand is the model's, log 18). -/
def Obligations.CommandTextReadsBack : Prop :=
  ∀ i : Instr, i.wellFormed = true → readLine (commandText i) = some (i, none)

/-- Rule R82's notation: a line of text is its mnemonic's one command, and an operand on a command that ignores it is a
syntax error (30_encoding.md, Assembler syntax). -/
def Obligations.CommandTextSyntax : Prop :=
  (∀ (words : List (List Char)) (i : Instr), readCommand words = some i →
    words.head? = some (mnemonicText i) ∧ i.wellFormed = true) ∧
  (∀ x : List Char,
    readCommand [mnemonicText .destroy, x] = none ∧ readCommand [mnemonicText .isfull, x] = none ∧
    readCommand [mnemonicText .isempty, x] = none ∧ readCommand [mnemonicText .read, x] = none ∧
    readCommand [mnemonicText .occupancy, x] = none ∧ readCommand [mnemonicText .dump, x] = none)

/-! ### The step -/

/-- A step at an edge that presents a command is that command's meaning, with the sample used up (70_reset_and_hazards.md,
Command timing; the list of samples is the model's, log 2). -/
def Obligations.StepRunsDecodedCommand : Prop :=
  ∀ (s : State) (p : PortSample) (rest : List PortSample),
    s.port = p :: rest → p.rst = false → p.cmdValid = true → s.wasReset = true →
    step s = exec (decode (commandWord p.cmdOp p.cmdArg)) { s with port := rest }

/-- Presenting a word has the very next step run it, and the decoder on plain numbers takes exactly the 35-bit words (the
model's choices, logs 2 and 16). -/
def Obligations.FetchWordIsRunNext : Prop :=
  ∀ (s : State) (nbits w : Nat), w < 2 ^ nbits →
    (w < 2 ^ 35 → decodeTableWord nbits w = some (decode (BitVec.ofNat 35 w)) ∧
      decodeNumber w = .ok (decode (BitVec.ofNat 35 w)) ∧
      (s.wasReset = true →
        step (s.withFetchWord nbits w) = exec (decode (BitVec.ofNat 35 w)) { s with port := s.port.tail })) ∧
    (2 ^ 35 ≤ w → decodeTableWord nbits w = none ∧ decodeNumber w = .error .notACommandWord)

/-- Rules R42 and R231: at an edge with `rst = 1`, from any state and whatever the host presents, the state takes its
reset values, the command is discarded, and more edges with `rst = 1` keep them. -/
def Obligations.ResetEdgeGivesResetValues : Prop :=
  ∀ (s : State) (p : PortSample) (rest : List PortSample), s.port = p :: rest → p.rst = true →
    ∃ t : State, step s = .next t ∧
      t.lc = .uninit ∧ t.cap = 0 ∧ t.cnt = 0 ∧ t.wr = 0 ∧ t.rd = 0 ∧ (∀ i, t.mem.read i = none) ∧
      t.respValid = false ∧ t.respStatus = 0 ∧ t.respData = 0 ∧
      t.dumpLive = List.replicate s.cfg.depthMax false ∧ t.dumpSlot.length = s.cfg.depthMax ∧
      fullO t = false ∧ emptyO t = false ∧ activeO t = false ∧ countO t = 0 ∧
      (∀ (q : PortSample) (rest' : List PortSample), rest = q :: rest' → q.rst = true →
        ∃ u : State, step t = .next u ∧ u.lc = t.lc ∧ u.cap = t.cap ∧ u.cnt = t.cnt ∧ u.wr = t.wr ∧ u.rd = t.rd ∧
          u.mem = t.mem ∧ u.respValid = t.respValid ∧ u.respStatus = t.respStatus ∧ u.respData = t.respData ∧
          u.dumpLive = t.dumpLive)

/-- An idle edge clears `resp_valid` and changes nothing else (70_reset_and_hazards.md, Command timing; that it is a step of
its own is the model's choice, log 3). -/
def Obligations.IdleEdgeOnlyClearsValid : Prop :=
  ∀ (s : State) (p : PortSample) (rest : List PortSample), s.port = p :: rest → p.rst = false → p.cmdValid = false →
    step s = .next { s with port := rest, respValid := false }

/-- A command from a state that no reset has reached is refused (70_reset_and_hazards.md, Boot). That the state carries a
mark of a seen reset, which a reset edge sets, is log 9. That an idle edge is a step at all, and keeps the mark, is the
model's choice: log 3 and log 9. -/
def Obligations.CommandBeforeResetRefused : Prop :=
  ∀ (s : State) (p : PortSample) (rest : List PortSample), s.port = p :: rest → s.wasReset = false →
    (p.rst = false → p.cmdValid = true → step s = .refused .neverReset) ∧
    (p.rst = true → ∃ t, step s = .next t ∧ t.wasReset = true) ∧
    (p.rst = false → p.cmdValid = false → ∃ t, step s = .next t ∧ t.wasReset = false)

/-- The run ends when the host's list is exhausted (70_reset_and_hazards.md, the end of a run; how the model says so is its
own choice, log 2). -/
def Obligations.RunEndsWithTheHostsList : Prop :=
  ∀ s : State, (s.port = [] → step s = .refused .endOfRun) ∧
    (s.port ≠ [] → step s ≠ .refused .endOfRun)

/-- `resp_valid` is 1 after exactly the edges that accepted a command (70_reset_and_hazards.md, Command timing); and a step
uses up one sample and keeps the parameter of the build (the model's own fields, logs 1 and 2). -/
def Obligations.ResponseLastsOneCycle : Prop :=
  ∀ (s t : State) (p : PortSample) (rest : List PortSample), s.port = p :: rest → step s = .next t →
    t.respValid = (!p.rst && p.cmdValid) ∧ t.port = rest ∧ t.cfg = s.cfg

/-- Back-to-back commands are performed one after the other, each on the state the one before it left
(70_reset_and_hazards.md, Hazards; 20_memory.md, Ordering): the machine's run on the samples that present a list of commands
is the list of their meanings. -/
def Obligations.CommandStreamRunsInOrder : Prop :=
  ∀ (is : List Instr) (s t : State) (rs : List (StatusCode × Word)) (rest : List PortSample),
    (∀ i ∈ is, i.wellFormed = true) → s.wasReset = true → answers is { s with port := rest } = some (rs, t) →
    Host.Core.run Sys2Proof.core is.length { s with port := is.map presenting ++ rest } = .next t ∧ t.port = rest

/-! ### Reset and the invariant -/

/-- The state the model names for reset (10_state.md, Reset values; the depth 8, the free words and the empty list of samples
are the model's choices, logs 1, 2, 7 and 8). -/
def Obligations.ResetStateValues : Prop :=
  State.reset.lc = .uninit ∧ State.reset.cap = 0 ∧ State.reset.cnt = 0 ∧ State.reset.wr = 0 ∧ State.reset.rd = 0 ∧
  (∀ i, State.reset.mem.read i = none) ∧ State.reset.mem.wf = true ∧ State.reset.respValid = false ∧
  State.reset.respStatus = 0 ∧ State.reset.respData = 0 ∧
  (∀ i, i < State.reset.cfg.depthMax → State.reset.dumpLive[i]? = some false) ∧
  State.reset.dumpSlot.length = State.reset.cfg.depthMax ∧
  fullO State.reset = false ∧ emptyO State.reset = false ∧ activeO State.reset = false ∧ countO State.reset = 0

/-- The invariant holds at reset, and after a reset edge from any state of a legal build. -/
def Obligations.ResetEstablishesInvariant : Prop :=
  State.reset.Inv ∧ ∀ s : State, s.cfg.Legal → (resetEdge s).Inv

/-- Every step keeps the invariant. -/
def Obligations.StepKeepsInvariant : Prop := ∀ s t : State, s.Inv → step s = .next t → t.Inv

/-- Rules R29 and R31: the bounds of the registers in every state reached from reset, and the widths that hold them. -/
def Obligations.ReachableRegistersInBounds : Prop :=
  ∀ s : State, Reachable s →
    s.cap ≤ s.cfg.depthMax ∧ 0 ≤ s.cnt ∧ s.cnt ≤ s.cap ∧
    (s.lc = .active → 1 ≤ s.cap ∧ s.wr < s.cap ∧ s.rd < s.cap) ∧
    (s.lc ≠ .active → s.cap = 0 ∧ s.cnt = 0 ∧ s.wr = 0 ∧ s.rd = 0) ∧
    s.cap < 2 ^ s.cfg.cntW ∧ s.cnt < 2 ^ s.cfg.cntW ∧ s.wr < 2 ^ s.cfg.ptrW ∧ s.rd < 2 ^ s.cfg.ptrW

/-- Rule R32: the cursor relation, and the equal cursors of an empty or a full buffer. -/
def Obligations.ReachableCursorRelation : Prop :=
  ∀ s : State, Reachable s → s.lc = .active →
    s.wr = (s.rd + s.cnt) % s.cap ∧ (s.cnt = 0 ∨ s.cnt = s.cap → s.wr = s.rd)

/-- Rule R221: in every state reached from reset every command gets a response, and a next edge always gives a next
state. -/
def Obligations.ReachableAlwaysAnswers : Prop :=
  ∀ s : State, Reachable s →
    (∀ i : Instr, ∃ t, exec i s = .next t ∧ t.respValid = true) ∧
    (∀ (p : PortSample) (rest : List PortSample), ∃ t, step { s with port := p :: rest } = .next t) ∧
    (s.lc = .destroyed → ∀ i : Instr, ∃ t, exec i s = .next t ∧ t.respStatus = 3 ∧ t.respValid = true)

/-! ### Flags -/

/-- Rules R34, R35 and R36: the classifications and the level outputs. -/
def Obligations.FlagOutputsFollowRegisters : Prop :=
  ∀ s : State,
    (s.lc = .active → (isFull s = true ↔ s.cnt = s.cap) ∧ (isEmpty s = true ↔ s.cnt = 0)) ∧
    (fullO s = true ↔ s.lc = .active ∧ s.cnt = s.cap) ∧ (emptyO s = true ↔ s.lc = .active ∧ s.cnt = 0) ∧
    (activeO s = true ↔ s.lc = .active) ∧
    (s.lc ≠ .active → fullO s = false ∧ emptyO s = false) ∧
    (s.Inv → (countO s).toNat = s.cnt ∧ (s.lc ≠ .active → countO s = 0)) ∧
    (outputs s).full = fullO s ∧ (outputs s).empty = emptyO s ∧ (outputs s).active = activeO s ∧
    (outputs s).count = countO s ∧
    fullO State.reset = false ∧ emptyO State.reset = false ∧ activeO State.reset = false ∧ countO State.reset = 0

/-- Rule R30: when the buffer is empty no READ succeeds, when it is full no WRITE does, and it is never both. -/
def Obligations.FullAndEmptyExclude : Prop :=
  ∀ s : State, s.Inv → s.lc = .active →
    ((isEmpty s = true ↔ s.cnt = 0) ∧ (isFull s = true ↔ s.cnt = s.cap)) ∧
    (s.cnt = 0 ↔ ¬ ∃ t, exec .read s = .next t ∧ t.respStatus = 0) ∧
    (s.cnt = s.cap ↔ ∀ v, ¬ ∃ t, exec (.write v) s = .next t ∧ t.respStatus = 0) ∧
    ¬ (isFull s = true ∧ isEmpty s = true)

/-! ### Lifecycle commands -/

/-- Rules R101 and R104: CONSTRUCT, its three errors in their order, its success, and the buffer of one slot. -/
def Obligations.ConstructEffect : Prop :=
  (∀ arg : Word, decode (commandWord 0 arg) = .construct arg.toNat) ∧
  (∀ s : State, s.Inv → s.lc = .active → s.cap = 1 → s.wr = 0 ∧ s.rd = 0 ∧ (emptyO s = true ∨ fullO s = true)) ∧
  ∀ (n : Nat) (s : State),
    (s.lc ≠ .uninit →
      exec (.construct n) s = .next { s with respValid := true, respStatus := 3, respData := 0 }) ∧
    (s.lc = .uninit → n = 0 →
      exec (.construct n) s = .next { s with respValid := true, respStatus := 1, respData := 0 }) ∧
    (s.lc = .uninit → s.cfg.depthMax < n → n ≠ 0 →
      exec (.construct n) s = .next { s with respValid := true, respStatus := 2, respData := 0 }) ∧
    (s.lc = .uninit → 1 ≤ n → n ≤ s.cfg.depthMax →
      ∃ t, exec (.construct n) s = .next t ∧
        t = { s with lc := .active, cap := n, cnt := 0, wr := 0, rd := 0, mem := [],
                     respValid := true, respStatus := 0, respData := 0 } ∧
        (∀ i, t.mem.read i = none) ∧
        emptyO t = true ∧ fullO t = false ∧ activeO t = true ∧ countO t = 0)

/-- Rule R102: the state after a successful CONSTRUCT, what the queries answer there, and that no other command leads from
UNINIT to ACTIVE. -/
def Obligations.StateAfterConstruct : Prop :=
  (∀ (n : Nat) (s t : State), exec (.construct n) s = .next t → t.respStatus = 0 →
    t.lc = .active ∧ t.cap = n ∧ t.cnt = 0 ∧ t.wr = 0 ∧ t.rd = 0 ∧ (∀ i, t.mem.read i = none) ∧
    (∃ u, exec .occupancy t = .next u ∧ u.respStatus = 0 ∧ u.respData = 0) ∧
    (∃ u, exec .isempty t = .next u ∧ u.respStatus = 0 ∧ u.respData = 1) ∧
    (∃ u, exec .isfull t = .next u ∧ u.respStatus = 0 ∧ u.respData = 0)) ∧
  (∀ (i : Instr) (s t : State), exec i s = .next t → s.lc = .uninit → t.lc = .active →
    ∃ n, i = .construct n ∧ t.respStatus = 0)

/-- Rules R105, R106 and R107: DESTROY in ACTIVE and outside it. -/
def Obligations.DestroyEffect : Prop :=
  (∀ arg : Word, decode (commandWord 1 arg) = .destroy) ∧
  (∀ s : State,
    (s.lc ≠ .active → exec .destroy s = .next { s with respValid := true, respStatus := 3, respData := 0 }) ∧
    (s.lc = .active →
      ∃ t, exec .destroy s = .next t ∧
        t = { s with lc := .destroyed, cap := 0, cnt := 0, wr := 0, rd := 0, mem := [],
                     respValid := true, respStatus := 0, respData := 0 } ∧
        (∀ i, t.mem.read i = none) ∧
        fullO t = false ∧ emptyO t = false ∧ activeO t = false ∧ countO t = 0)) ∧
  (∀ (i : Instr) (s t : State), exec i s = .next t →
    (s.lc = .active → t.lc = .destroyed → i = .destroy) ∧ (s.lc = .destroyed → t.lc = .destroyed))

/-- Rule R22: the lifecycle transitions of every command and of reset. -/
def Obligations.LifecycleTransitions : Prop :=
  (∀ (i : Instr) (s t : State), exec i s = .next t →
    (t.lc ≠ s.lc →
      (∃ n, i = .construct n ∧ s.lc = .uninit ∧ t.lc = .active) ∨
      (i = .destroy ∧ s.lc = .active ∧ t.lc = .destroyed)) ∧
    (s.lc = .destroyed → t.lc = .destroyed)) ∧
  (∀ (s : State) (p : PortSample) (rest : List PortSample), s.port = p :: rest → p.rst = true →
    ∃ t, step s = .next t ∧ t.lc = .uninit)

/-- Rule R108: after a successful DESTROY every command, in any list of commands, fails with INVALID_STATE and changes
nothing. -/
def Obligations.DestroyedAnswersInvalidState : Prop :=
  ∀ (s t : State), exec .destroy s = .next t → t.respStatus = 0 →
    ∀ is : List Instr, ∃ u, answers is t = some (List.replicate is.length (3, 0), u) ∧
      { u with respValid := t.respValid, respStatus := t.respStatus, respData := t.respData } = t

/-! ### Query commands -/

/-- Rule R120: ISFULL. -/
def Obligations.IsfullEffect : Prop :=
  (∀ arg : Word, decode (commandWord 2 arg) = .isfull) ∧
  ∀ s : State,
    (s.lc ≠ .active → exec .isfull s = .next { s with respValid := true, respStatus := 3, respData := 0 }) ∧
    (s.lc = .active → s.cnt = s.cap →
      exec .isfull s = .next { s with respValid := true, respStatus := 0, respData := 1 }) ∧
    (s.lc = .active → s.cnt ≠ s.cap →
      exec .isfull s = .next { s with respValid := true, respStatus := 0, respData := 0 }) ∧
    (s.Inv → s.lc = .active → s.cap = 1 → ∀ t u, exec .isfull s = .next t → exec .isempty s = .next u →
      (t.respData = 1 ↔ u.respData = 0)) ∧
    (s.Inv → s.lc = .active → s.wr = s.rd → s.cnt = 0 ∨ s.cnt = s.cap)

/-- Rule R123: ISEMPTY. -/
def Obligations.IsemptyEffect : Prop :=
  (∀ arg : Word, decode (commandWord 3 arg) = .isempty) ∧
  ∀ s : State,
    (s.lc ≠ .active → exec .isempty s = .next { s with respValid := true, respStatus := 3, respData := 0 }) ∧
    (s.lc = .active → s.cnt = 0 →
      exec .isempty s = .next { s with respValid := true, respStatus := 0, respData := 1 }) ∧
    (s.lc = .active → s.cnt ≠ 0 →
      exec .isempty s = .next { s with respValid := true, respStatus := 0, respData := 0 }) ∧
    (s.Inv → s.lc = .active → ∀ t u, exec .isfull s = .next t → exec .isempty s = .next u →
      ¬ (t.respData = 1 ∧ u.respData = 1))

/-- Rule R126: OCCUPANCY. -/
def Obligations.OccupancyEffect : Prop :=
  (∀ arg : Word, decode (commandWord 6 arg) = .occupancy) ∧
  ∀ s : State,
    (s.lc ≠ .active → exec .occupancy s = .next { s with respValid := true, respStatus := 3, respData := 0 }) ∧
    (s.lc = .active →
      exec .occupancy s = .next { s with respValid := true, respStatus := 0, respData := BitVec.ofNat 32 s.cnt }) ∧
    (s.Inv → s.lc = .active → (BitVec.ofNat 32 s.cnt).toNat = s.cnt ∧ s.cnt ≤ s.cap)

/-- Rules R121, R124 and R128: in ACTIVE the three queries agree with the level outputs of the state they are presented
in. -/
def Obligations.QueriesAgreeWithOutputs : Prop :=
  ∀ s : State, s.lc = .active →
    (∃ t, exec .isfull s = .next t ∧ t.respData = (BitVec.ofBool (fullO s)).setWidth 32) ∧
    (∃ t, exec .isempty s = .next t ∧ t.respData = (BitVec.ofBool (emptyO s)).setWidth 32) ∧
    (∃ t, exec .occupancy s = .next t ∧ t.respData = countO s)

/-- Rules R122 and R125: WRITE and READ fail with BUFFER_FULL and BUFFER_EMPTY exactly when ISFULL and ISEMPTY in their place
would answer 1. -/
def Obligations.DataCommandsTestTheQueries : Prop :=
  ∀ s : State, s.Inv → s.lc = .active →
    (∀ v : Word, ∃ t u, exec (.write v) s = .next t ∧ exec .isfull s = .next u ∧
      (t.respStatus = 4 ↔ u.respData = 1)) ∧
    (∃ t u, exec .read s = .next t ∧ exec .isempty s = .next u ∧ (t.respStatus = 5 ↔ u.respData = 1))

/-! ### Data commands -/

/-- Rule R140: WRITE, its two errors, its success, and the flags after it. -/
def Obligations.WriteEffect : Prop :=
  (∀ arg : Word, decode (commandWord 4 arg) = .write arg) ∧
  ∀ (v : Word) (s : State),
    (s.lc ≠ .active →
      exec (.write v) s = .next { s with respValid := true, respStatus := 3, respData := 0 }) ∧
    (s.lc = .active → s.cnt = s.cap →
      exec (.write v) s = .next { s with respValid := true, respStatus := 4, respData := 0 }) ∧
    (s.lc = .active → s.cnt ≠ s.cap → s.wr < s.cap → s.wr < s.cfg.depthMax →
      ∃ t, exec (.write v) s = .next t ∧
        t = { s with mem := t.mem, wr := (s.wr + 1) % s.cap, cnt := s.cnt + 1,
                     respValid := true, respStatus := 0, respData := 0 } ∧
        t.mem.read s.wr = some v ∧ (∀ i, i ≠ s.wr → t.mem.read i = s.mem.read i) ∧
        emptyO t = false ∧ (fullO t = true ↔ s.cnt + 1 = s.cap) ∧
        countO t = countO s + 1 ∧
        (s.wr = s.cap - 1 → t.wr = 0) ∧ (s.Inv → t.cnt ≤ t.cap))

/-- Which stop a WRITE or a READ makes when its cursor names no slot of the buffer (20_memory.md, the assertion that cannot
fire) or no slot at all (the model's choice, log 10). -/
def Obligations.SlotAssertions : Prop :=
  (∀ (v : Word) (s : State), s.lc = .active → s.cnt ≠ s.cap →
    (s.cap ≤ s.wr → exec (.write v) s = .refused .slotBeyondCapacity) ∧
    (s.wr < s.cap → s.cfg.depthMax ≤ s.wr → exec (.write v) s = .fault .slotAbsent)) ∧
  (∀ s : State, s.lc = .active → s.cnt ≠ 0 →
    (s.cap ≤ s.rd → exec .read s = .refused .slotBeyondCapacity) ∧
    (s.rd < s.cap → s.cfg.depthMax ≤ s.rd → exec .read s = .fault .slotAbsent)) ∧
  (∀ (i : Instr) (s : State), s.Inv → ∃ t, exec i s = .next t)

/-- Rule R141: the frame of a successful WRITE, and what it does to the abstract queue. -/
def Obligations.WriteFrame : Prop :=
  ∀ (v : Word) (s : State), s.Inv → s.lc = .active → s.cnt ≠ s.cap →
    ∃ t, exec (.write v) s = .next t ∧ t.respStatus = 0 ∧
      t.mem.read s.wr = some v ∧ t.wr = (s.wr + 1) % s.cap ∧ t.cnt = s.cnt + 1 ∧
      t.lc = s.lc ∧ t.cap = s.cap ∧ t.rd = s.rd ∧ (∀ i, i ≠ s.wr → t.mem.read i = s.mem.read i) ∧
      t.dumpSlot = s.dumpSlot ∧ t.dumpLive = s.dumpLive ∧
      queue t = queue s ++ [v]

/-- Rule R145: READ, its two errors, its success, the flags after it, and the fault on ⊥. -/
def Obligations.ReadEffect : Prop :=
  (∀ arg : Word, decode (commandWord 5 arg) = .read) ∧
  ∀ s : State,
    (s.lc ≠ .active → exec .read s = .next { s with respValid := true, respStatus := 3, respData := 0 }) ∧
    (s.lc = .active → s.cnt = 0 →
      exec .read s = .next { s with respValid := true, respStatus := 5, respData := 0 }) ∧
    (∀ v : Word, s.lc = .active → s.cnt ≠ 0 → s.rd < s.cap → s.rd < s.cfg.depthMax → s.mem.read s.rd = some v →
      ∃ t, exec .read s = .next t ∧
        t = { s with rd := (s.rd + 1) % s.cap, cnt := s.cnt - 1,
                     respValid := true, respStatus := 0, respData := v } ∧
        t.mem.read s.rd = some v ∧
        (s.Inv → fullO t = false) ∧ (emptyO t = true ↔ s.cnt - 1 = 0) ∧ countO s = countO t + 1 ∧
        (s.rd = s.cap - 1 → t.rd = 0)) ∧
    (s.lc = .active → s.cnt ≠ 0 → s.rd < s.cap → s.rd < s.cfg.depthMax → s.mem.read s.rd = none →
      exec .read s = .fault .slotUnwritten)

/-- Rule R146: the frame of a successful READ, its response, and what it does to the abstract queue. -/
def Obligations.ReadFrame : Prop :=
  ∀ s : State, s.Inv → s.lc = .active → s.cnt ≠ 0 →
    ∃ t v, exec .read s = .next t ∧ t.respStatus = 0 ∧ t.respData = v ∧ s.mem.read s.rd = some v ∧
      t.rd = (s.rd + 1) % s.cap ∧ t.cnt = s.cnt - 1 ∧
      t.lc = s.lc ∧ t.cap = s.cap ∧ t.wr = s.wr ∧ (∀ i, t.mem.read i = s.mem.read i) ∧
      t.dumpSlot = s.dumpSlot ∧ t.dumpLive = s.dumpLive ∧
      queue s = v :: queue t

/-- Rules R142 and R147: a WRITE to a full buffer and a READ of an empty one leave every register and slot unchanged. -/
def Obligations.BoundaryFailuresChangeNothing : Prop :=
  ∀ (i : Instr) (s t : State), exec i s = .next t → t.respStatus = 4 ∨ t.respStatus = 5 →
    t.lc = s.lc ∧ t.cap = s.cap ∧ t.cnt = s.cnt ∧ t.wr = s.wr ∧ t.rd = s.rd ∧
    (∀ k, t.mem.read k = s.mem.read k) ∧ t.dumpSlot = s.dumpSlot ∧ t.dumpLive = s.dumpLive ∧ t.respData = 0

/-- Rule R148: from an ACTIVE state that is not full, a value written comes back from the READ that follows `cnt` READs, with
no WRITE in between (other commands that keep the buffer may be). -/
def Obligations.WriteComesBack : Prop :=
  ∀ (v : Word) (s : State), s.Inv → s.lc = .active → s.cnt < s.cap →
    ∀ between : List Instr, (∀ i ∈ between, i ≠ .destroy ∧ ∀ w, i ≠ .write w) → between.count .read = s.cnt →
      ∃ (rs : List (StatusCode × Word)) (t : State),
        answers (.write v :: between ++ [.read]) s = some (rs, t) ∧ rs.head? = some (0, 0) ∧ rs.getLast? = some (0, v)

/-- Rule R149: FIFO order. -/
def Obligations.FifoOrder : Prop :=
  ∀ (vs : List Word) (s : State), s.Inv → s.lc = .active → s.cnt = 0 → vs.length ≤ s.cap →
    ∃ t, answers (vs.map .write ++ List.replicate vs.length .read) s =
      some (List.replicate vs.length (0, 0) ++ vs.map (fun v => (0, v)), t)

/-- Rule R150: wraparound. -/
def Obligations.WraparoundFillsAgain : Prop :=
  ∀ (vs ws : List Word) (s : State), s.Inv → s.lc = .active → s.cnt = 0 → vs.length = s.cap → ws.length < s.cap →
    ∃ (rs : List (StatusCode × Word)) (t : State),
      answers (vs.map .write ++ List.replicate ws.length .read ++ ws.map .write) s = some (rs, t) ∧
      (∀ r ∈ rs, r.1 = 0) ∧ t.cnt = s.cap ∧ t.cap = s.cap ∧ fullO t = true ∧
      t.wr = (s.wr + s.cap + ws.length) % s.cap ∧ t.rd = (s.rd + ws.length) % s.cap ∧
      (s.rd = 0 → t.wr = ws.length % s.cap ∧ t.rd = ws.length % s.cap)

/-! ### DUMP -/

/-- Rules R160 and R161: DUMP in ACTIVE and outside it. What a slot still ⊥ and a slot at `cap` or above show is left open. -/
def Obligations.DumpEffect : Prop :=
  (∀ arg : Word, decode (commandWord 7 arg) = .dump) ∧
  ∀ s : State,
    (s.lc ≠ .active → exec .dump s = .next { s with respValid := true, respStatus := 3, respData := 0 }) ∧
    (s.lc = .active →
      ∃ t, exec .dump s = .next t ∧
        t = { s with dumpSlot := t.dumpSlot, dumpLive := t.dumpLive, draws := t.draws,
                     respValid := true, respStatus := 0, respData := BitVec.ofNat 32 s.cap } ∧
        t.dumpSlot.length = s.cfg.depthMax ∧ t.dumpLive.length = s.cfg.depthMax ∧
        ∀ i, i < s.cfg.depthMax →
          (∀ v, i < s.cap → s.mem.read i = some v → t.dumpSlot[i]? = some v) ∧
          (i < s.cap →
            t.dumpLive[i]? = some (decide (((i : Int) - (s.rd : Int)) % (s.cap : Int) < (s.cnt : Int)))) ∧
          (s.cap ≤ i → t.dumpLive[i]? = some false))

/-- The free words a DUMP and a reset edge show (93_implementation_defined.md U7 and U8; the model's form of them, logs 7 and
8): one draw a slot, and none used twice. -/
def Obligations.UnwrittenSlotsShowFreshDraws : Prop :=
  (∀ s : State, s.lc = .active →
    ∃ t, exec .dump s = .next t ∧ t.draws = s.draws + s.cfg.depthMax ∧
      ∀ i, i < s.cfg.depthMax → s.cap ≤ i ∨ s.mem.read i = none →
        t.dumpSlot[i]? = some (Config.freeWord (s.draws + i))) ∧
  (∀ (s : State) (p : PortSample) (rest : List PortSample), s.port = p :: rest → p.rst = true →
    ∃ t, step s = .next t ∧ t.draws = s.draws + s.cfg.depthMax ∧
      ∀ i, i < s.cfg.depthMax → t.dumpSlot[i]? = some (Config.freeWord (s.draws + i)))

/-- Rule R162: the live mask is the `cnt` slots that follow `rd` circularly. -/
def Obligations.LiveSlotsAreTheQueue : Prop :=
  ∀ s : State, s.Inv → s.lc = .active →
    (∀ i, i < s.cap → (slotLive s i = true ↔ ((i : Int) - (s.rd : Int)) % (s.cap : Int) < (s.cnt : Int))) ∧
    (∀ i, i < s.cap → (slotLive s i = true ↔ ∃ k, k < s.cnt ∧ i = (s.rd + k) % s.cap)) ∧
    ((List.range s.cap).filter (slotLive s)).length = s.cnt ∧
    (s.cnt = 0 → ∀ i, i < s.cap → slotLive s i = false) ∧
    (s.cnt = s.cap → ∀ i, i < s.cap → slotLive s i = true)

/-- Rule R164: DUMP mutates no field, and two DUMPs in a row give the same live mask and the same words for written
slots. -/
def Obligations.DumpTwiceAgrees : Prop :=
  ∀ s : State, s.lc = .active →
    ∃ t u, exec .dump s = .next t ∧ exec .dump t = .next u ∧
      t.lc = s.lc ∧ t.cap = s.cap ∧ t.cnt = s.cnt ∧ t.wr = s.wr ∧ t.rd = s.rd ∧ t.mem = s.mem ∧
      u.lc = s.lc ∧ u.cap = s.cap ∧ u.cnt = s.cnt ∧ u.wr = s.wr ∧ u.rd = s.rd ∧ u.mem = s.mem ∧
      u.dumpLive = t.dumpLive ∧
      (∀ i v, i < s.cap → s.mem.read i = some v → u.dumpSlot[i]? = t.dumpSlot[i]?)

/-- Rule R165: only a successful DUMP or a reset loads the snapshot outputs. -/
def Obligations.SnapshotKeptByEverythingElse : Prop :=
  (∀ (i : Instr) (s t : State), exec i s = .next t → i ≠ .dump ∨ t.respStatus ≠ 0 →
    t.dumpSlot = s.dumpSlot ∧ t.dumpLive = s.dumpLive) ∧
  (∀ (s t : State) (p : PortSample) (rest : List PortSample), s.port = p :: rest → p.rst = false →
    p.cmdValid = false → step s = .next t → t.dumpSlot = s.dumpSlot ∧ t.dumpLive = s.dumpLive) ∧
  (∀ (s t : State) (i : Nat), exec .dump s = .next t → t.respStatus = 0 → s.cap ≤ i → i < s.cfg.depthMax →
    t.dumpLive[i]? = some false) ∧
  (∀ (s t : State) (p : PortSample) (rest : List PortSample), s.port = p :: rest → p.rst = true →
    step s = .next t → ∀ i, i < s.cfg.depthMax → t.dumpLive[i]? = some false)

/-! ### All commands -/

/-- Rule R202: a command that fails loads the response registers and changes nothing else. -/
def Obligations.FailedCommandsChangeNothing : Prop :=
  ∀ (i : Instr) (s t : State), exec i s = .next t → t.respStatus ≠ 0 →
    t = { s with respValid := true, respStatus := t.respStatus, respData := 0 }

/-- Rule R201: the lifecycle check of every command. -/
def Obligations.LifecycleCheck : Prop :=
  ∀ (i : Instr) (s : State),
    ((∀ n, i ≠ .construct n) → s.lc ≠ .active → ∃ t, exec i s = .next t ∧ t.respStatus = 3) ∧
    (∀ n, i = .construct n → s.lc ≠ .uninit → ∃ t, exec i s = .next t ∧ t.respStatus = 3)

/-- Rules R203 and R205: which error a command reports, and that there is no other. -/
def Obligations.ErrorCauses : Prop :=
  ∀ (i : Instr) (s t : State), exec i s = .next t →
    (t.respStatus = 1 ↔ i = .construct 0 ∧ s.lc = .uninit) ∧
    (t.respStatus = 2 ↔ ∃ n, i = .construct n ∧ s.lc = .uninit ∧ n ≠ 0 ∧ s.cfg.depthMax < n) ∧
    (t.respStatus = 3 ↔ (∃ n, i = .construct n ∧ s.lc ≠ .uninit) ∨ ((∀ n, i ≠ .construct n) ∧ s.lc ≠ .active)) ∧
    (t.respStatus = 4 ↔ ∃ v, i = .write v ∧ s.lc = .active ∧ s.cnt = s.cap) ∧
    (t.respStatus = 5 ↔ i = .read ∧ s.lc = .active ∧ s.cnt = 0) ∧
    (t.respStatus ≠ 0 → t.respStatus.toNat ≤ 5 ∧ t.respData = 0)

/-- Rule R78: the result word of every command and outcome, and that in ACTIVE a classification answers with status OK. -/
def Obligations.ResultWords : Prop :=
  ∀ (i : Instr) (s t : State), exec i s = .next t →
    (s.lc = .active → i = .isfull ∨ i = .isempty → t.respStatus = 0) ∧
    (t.respStatus ≠ 0 → t.respData = 0) ∧
    (t.respStatus = 0 →
      (∀ n, i = .construct n → t.respData = 0) ∧
      (i = .destroy → t.respData = 0) ∧
      (i = .isfull → t.respData = if s.cnt = s.cap then 1 else 0) ∧
      (i = .isempty → t.respData = if s.cnt = 0 then 1 else 0) ∧
      (∀ v, i = .write v → t.respData = 0) ∧
      (i = .read → s.mem.read s.rd = some t.respData) ∧
      (i = .occupancy → t.respData = BitVec.ofNat 32 s.cnt) ∧
      (i = .dump → t.respData = BitVec.ofNat 32 s.cap))

/-- The queries are idempotent, and so is every command that failed (20_memory.md, Side effects and idempotency). -/
def Obligations.QueriesAndFailuresAreIdempotent : Prop :=
  ∀ (i : Instr) (s t : State), exec i s = .next t →
    (i = .isfull ∨ i = .isempty ∨ i = .occupancy ∨ t.respStatus ≠ 0) →
    exec i t = .next t ∧
    t.lc = s.lc ∧ t.cap = s.cap ∧ t.cnt = s.cnt ∧ t.wr = s.wr ∧ t.rd = s.rd ∧ t.mem = s.mem

/-- Which commands write which register and which slot (10_state.md, Register summary), and that no command touches the
model's own parameter, reset mark and list of samples (logs 1, 2 and 9). -/
def Obligations.RegistersWrittenOnlyByTheirCommands : Prop :=
  ∀ (i : Instr) (s t : State), exec i s = .next t →
    (t.lc ≠ s.lc ∨ t.cap ≠ s.cap → (∃ n, i = .construct n) ∨ i = .destroy) ∧
    (t.cnt ≠ s.cnt → (∃ n, i = .construct n) ∨ i = .destroy ∨ (∃ v, i = .write v) ∨ i = .read) ∧
    (t.wr ≠ s.wr → (∃ n, i = .construct n) ∨ i = .destroy ∨ ∃ v, i = .write v) ∧
    (t.rd ≠ s.rd → (∃ n, i = .construct n) ∨ i = .destroy ∨ i = .read) ∧
    ((∃ k, t.mem.read k ≠ s.mem.read k) → (∃ n, i = .construct n) ∨ i = .destroy ∨ ∃ v, i = .write v) ∧
    (t.draws ≠ s.draws → i = .dump) ∧
    t.cfg = s.cfg ∧ t.wasReset = s.wasReset ∧ t.port = s.port ∧ t.respValid = true

/-- Rule R127: the occupancy law, from CONSTRUCT through any list of commands without a DESTROY. -/
def Obligations.OccupancyLaw : Prop :=
  ∀ (n : Nat) (s : State) (is : List Instr), s.Inv → s.lc = .uninit → 1 ≤ n → n ≤ s.cfg.depthMax → .destroy ∉ is →
    ∃ (rs : List (StatusCode × Word)) (t u : State),
      answers (.construct n :: is) s = some ((0, 0) :: rs, t) ∧
      (returnedReads is rs).length ≤ (acceptedWrites is rs).length ∧
      (acceptedWrites is rs).length - (returnedReads is rs).length ≤ n ∧
      exec .occupancy t = .next u ∧ u.respStatus = 0 ∧
      u.respData.toNat = (acceptedWrites is rs).length - (returnedReads is rs).length

/-- Rule R33: the queue is exactly what the successful WRITEs accepted since CONSTRUCT, less what the successful READs
returned, in write order; each of its elements is a value. -/
def Obligations.QueueIsAcceptedMinusReturned : Prop :=
  (∀ (n : Nat) (s : State) (is : List Instr), s.Inv → s.lc = .uninit → 1 ≤ n → n ≤ s.cfg.depthMax → .destroy ∉ is →
    ∃ (rs : List (StatusCode × Word)) (t : State),
      answers (.construct n :: is) s = some ((0, 0) :: rs, t) ∧
      acceptedWrites is rs = returnedReads is rs ++ queue t ∧
      (List.range t.cnt).map (fun k => t.mem.read ((t.rd + k) % t.cap)) = (queue t).map some) ∧
  (∀ (v : Word) (s t : State), s.Inv → exec (.write v) s = .next t → t.respStatus = 0 → queue t = queue s ++ [v]) ∧
  (∀ s t : State, s.Inv → exec .read s = .next t → t.respStatus = 0 → queue s = t.respData :: queue t)

/-- The controller refines a bounded queue: on every state that meets the invariant, every command answers, keeps the
invariant, and does to the abstract FIFO what its rule says, with the same response (10_state.md, Lifecycle; 42_data.md). -/
def Obligations.ControllerRefinesBoundedQueue : Prop :=
  ∀ (i : Instr) (s : State), s.Inv →
    ∃ t, exec i s = .next t ∧ t.Inv ∧ t.respValid = true ∧
      (abstraction t, t.respStatus, t.respData) = Fifo.command s.cfg.depthMax i (abstraction s)
end

