-- ==== Sys2Proof/Laws/Memory.lean ====
section
/-!
SUPPORT. The laws of the slot array: read after write, the canonical form and that every operation keeps it, and that
equal contents in the canonical form are equal data.
-/

namespace Sys2Proof.Machine

@[simp] theorem Memory.read_nil (i : Nat) : Memory.read [] i = none := rfl

@[simp] theorem Memory.read_write_same (m : Memory) (i : Nat) (v : Word) : (m.write i v).read i = some v := by
  induction m with
  | nil => simp [Memory.write, Memory.read]
  | cons c m ih =>
    obtain ⟨j, w⟩ := c
    simp only [Memory.write]
    split
    · simp [Memory.read]
    · split
      · simp [Memory.read]
      · simp [Memory.read, *]

theorem Memory.read_write_other (m : Memory) {i j : Nat} (v : Word) (h : j ≠ i) :
    (m.write i v).read j = m.read j := by
  induction m with
  | nil => simp [Memory.write, Memory.read, h]
  | cons c m ih =>
    obtain ⟨k, w⟩ := c
    simp only [Memory.write]
    split
    · simp [Memory.read, h]
    · split
      · rename_i hik
        subst hik
        simp [Memory.read, h]
      · simp [Memory.read, ih]

theorem Memory.read_write (m : Memory) (i j : Nat) (v : Word) :
    (m.write i v).read j = if j = i then some v else m.read j := by
  split
  · rename_i h
    rw [h, Memory.read_write_same]
  · exact Memory.read_write_other m v ‹_›

/-- A cell of the array after a write is the one written or was there before. -/
theorem Memory.mem_write {m : Memory} {i : Nat} {v : Word} {c : Nat × Word} (h : c ∈ m.write i v) :
    c = (i, v) ∨ c ∈ m := by
  induction m with
  | nil => simpa [Memory.write] using h
  | cons d m ih =>
    obtain ⟨j, w⟩ := d
    simp only [Memory.write] at h
    split at h
    · simpa using h
    · split at h
      · rcases List.mem_cons.mp h with h | h
        · exact .inl h
        · exact .inr (List.mem_cons_of_mem _ h)
      · rcases List.mem_cons.mp h with h | h
        · exact .inr (h ▸ List.mem_cons_self)
        · exact (ih h).imp_right (List.mem_cons_of_mem _)

/-- A slot that reads as a value is listed. -/
theorem Memory.mem_of_read {m : Memory} {i : Nat} {v : Word} (h : m.read i = some v) : (i, v) ∈ m := by
  induction m with
  | nil => simp at h
  | cons c m ih =>
    obtain ⟨j, w⟩ := c
    simp only [Memory.read] at h
    split at h
    · simp_all
    · exact List.mem_cons_of_mem _ (ih h)

theorem Memory.wf_iff (m : Memory) : m.wf = true ↔ m.Pairwise fun a b => a.1 < b.1 := by
  simp [Memory.wf]

@[simp] theorem Memory.wf_nil : Memory.wf [] = true := by decide

/-- The slot array of the reset state is in the canonical form. -/
theorem reset_mem_wf : State.reset.mem.wf = true := Memory.wf_nil

/-- In the canonical form every listed cell is what its slot reads as. -/
theorem Memory.read_of_mem {m : Memory} (hm : m.wf = true) {i : Nat} {v : Word} (h : (i, v) ∈ m) :
    m.read i = some v := by
  rw [Memory.wf_iff] at hm
  induction m with
  | nil => simp at h
  | cons c m ih =>
    obtain ⟨j, w⟩ := c
    rw [List.pairwise_cons] at hm
    rcases List.mem_cons.mp h with h | h
    · simp_all [Memory.read]
    · have hlt := hm.1 _ h
      simp only [Memory.read]
      rw [if_neg (by simpa using Nat.ne_of_gt hlt)]
      exact ih hm.2 h

/-- A write keeps the canonical form. -/
theorem Memory.write_wf {m : Memory} (hm : m.wf = true) (i : Nat) (v : Word) : (m.write i v).wf = true := by
  rw [Memory.wf_iff] at hm ⊢
  induction m with
  | nil => simp [Memory.write]
  | cons c m ih =>
    obtain ⟨j, w⟩ := c
    rw [List.pairwise_cons] at hm
    simp only [Memory.write]
    split
    · rename_i hij
      refine List.pairwise_cons.mpr ⟨fun d hd => ?_, List.pairwise_cons.mpr hm⟩
      rcases List.mem_cons.mp hd with rfl | hd
      · exact hij
      · exact Nat.lt_trans hij (hm.1 d hd)
    · split
      · rename_i hij
        subst hij
        exact List.pairwise_cons.mpr ⟨hm.1, hm.2⟩
      · refine List.pairwise_cons.mpr ⟨fun d hd => ?_, ih hm.2⟩
        rcases Memory.mem_write hd with rfl | hd
        · show j < i
          omega
        · exact hm.1 d hd

/-- In the canonical form, arrays that read alike are equal data. -/
theorem Memory.eq_of_read_eq {m n : Memory} (hm : m.wf = true) (hn : n.wf = true)
    (h : ∀ i, m.read i = n.read i) : m = n := by
  have hmem : ∀ c, c ∈ m ↔ c ∈ n := fun c =>
    ⟨fun hc => Memory.mem_of_read (h c.1 ▸ Memory.read_of_mem hm hc),
      fun hc => Memory.mem_of_read ((h c.1).symm ▸ Memory.read_of_mem hn hc)⟩
  rw [Memory.wf_iff] at hm hn
  have nodup : ∀ {l : Memory}, (l.Pairwise fun a b => a.1 < b.1) → l.Nodup := fun hl =>
    hl.imp fun hlt heq => absurd (heq ▸ hlt) (Nat.lt_irrefl _)
  refine List.Perm.eq_of_pairwise (le := fun a b => a.1 < b.1) (fun a b _ _ hab hba => ?_) hm hn
    ((List.perm_ext_iff_of_nodup (nodup hm) (nodup hn)).mpr hmem)
  exact absurd (Nat.lt_trans hab hba) (Nat.lt_irrefl _)

end Sys2Proof.Machine
end

