-- ==== Sys2Proof/Laws/State.lean ====
section
/-!
SUPPORT. What each update of the state does to each field, true by unfolding, so that no later proof unfolds a record
update.
-/

namespace Sys2Proof.Machine

variable (s : State)

/-! ### `State.loadResponse` -/

@[simp] theorem State.loadResponse_lc (c : StatusCode) (data : Word) : (s.loadResponse c data).lc = s.lc := rfl
@[simp] theorem State.loadResponse_cap (c : StatusCode) (data : Word) : (s.loadResponse c data).cap = s.cap := rfl
@[simp] theorem State.loadResponse_cnt (c : StatusCode) (data : Word) : (s.loadResponse c data).cnt = s.cnt := rfl
@[simp] theorem State.loadResponse_wr (c : StatusCode) (data : Word) : (s.loadResponse c data).wr = s.wr := rfl
@[simp] theorem State.loadResponse_rd (c : StatusCode) (data : Word) : (s.loadResponse c data).rd = s.rd := rfl
@[simp] theorem State.loadResponse_mem (c : StatusCode) (data : Word) : (s.loadResponse c data).mem = s.mem := rfl
@[simp] theorem State.loadResponse_respValid (c : StatusCode) (data : Word) : (s.loadResponse c data).respValid = true := rfl
@[simp] theorem State.loadResponse_respStatus (c : StatusCode) (data : Word) : (s.loadResponse c data).respStatus = c := rfl
@[simp] theorem State.loadResponse_respData (c : StatusCode) (data : Word) : (s.loadResponse c data).respData = data := rfl
@[simp] theorem State.loadResponse_dumpSlot (c : StatusCode) (data : Word) : (s.loadResponse c data).dumpSlot = s.dumpSlot := rfl
@[simp] theorem State.loadResponse_dumpLive (c : StatusCode) (data : Word) : (s.loadResponse c data).dumpLive = s.dumpLive := rfl
@[simp] theorem State.loadResponse_cfg (c : StatusCode) (data : Word) : (s.loadResponse c data).cfg = s.cfg := rfl
@[simp] theorem State.loadResponse_draws (c : StatusCode) (data : Word) : (s.loadResponse c data).draws = s.draws := rfl
@[simp] theorem State.loadResponse_wasReset (c : StatusCode) (data : Word) : (s.loadResponse c data).wasReset = s.wasReset := rfl
@[simp] theorem State.loadResponse_port (c : StatusCode) (data : Word) : (s.loadResponse c data).port = s.port := rfl

/-! ### `State.openBuffer` -/

@[simp] theorem State.openBuffer_lc (n : Nat) : (s.openBuffer n).lc = .active := rfl
@[simp] theorem State.openBuffer_cap (n : Nat) : (s.openBuffer n).cap = n := rfl
@[simp] theorem State.openBuffer_cnt (n : Nat) : (s.openBuffer n).cnt = 0 := rfl
@[simp] theorem State.openBuffer_wr (n : Nat) : (s.openBuffer n).wr = 0 := rfl
@[simp] theorem State.openBuffer_rd (n : Nat) : (s.openBuffer n).rd = 0 := rfl
@[simp] theorem State.openBuffer_mem (n : Nat) : (s.openBuffer n).mem = [] := rfl
@[simp] theorem State.openBuffer_respValid (n : Nat) : (s.openBuffer n).respValid = s.respValid := rfl
@[simp] theorem State.openBuffer_respStatus (n : Nat) : (s.openBuffer n).respStatus = s.respStatus := rfl
@[simp] theorem State.openBuffer_respData (n : Nat) : (s.openBuffer n).respData = s.respData := rfl
@[simp] theorem State.openBuffer_dumpSlot (n : Nat) : (s.openBuffer n).dumpSlot = s.dumpSlot := rfl
@[simp] theorem State.openBuffer_dumpLive (n : Nat) : (s.openBuffer n).dumpLive = s.dumpLive := rfl
@[simp] theorem State.openBuffer_cfg (n : Nat) : (s.openBuffer n).cfg = s.cfg := rfl
@[simp] theorem State.openBuffer_draws (n : Nat) : (s.openBuffer n).draws = s.draws := rfl
@[simp] theorem State.openBuffer_wasReset (n : Nat) : (s.openBuffer n).wasReset = s.wasReset := rfl
@[simp] theorem State.openBuffer_port (n : Nat) : (s.openBuffer n).port = s.port := rfl

/-! ### `State.closeBuffer` -/

@[simp] theorem State.closeBuffer_lc : (s.closeBuffer).lc = .destroyed := rfl
@[simp] theorem State.closeBuffer_cap : (s.closeBuffer).cap = 0 := rfl
@[simp] theorem State.closeBuffer_cnt : (s.closeBuffer).cnt = 0 := rfl
@[simp] theorem State.closeBuffer_wr : (s.closeBuffer).wr = 0 := rfl
@[simp] theorem State.closeBuffer_rd : (s.closeBuffer).rd = 0 := rfl
@[simp] theorem State.closeBuffer_mem : (s.closeBuffer).mem = [] := rfl
@[simp] theorem State.closeBuffer_respValid : (s.closeBuffer).respValid = s.respValid := rfl
@[simp] theorem State.closeBuffer_respStatus : (s.closeBuffer).respStatus = s.respStatus := rfl
@[simp] theorem State.closeBuffer_respData : (s.closeBuffer).respData = s.respData := rfl
@[simp] theorem State.closeBuffer_dumpSlot : (s.closeBuffer).dumpSlot = s.dumpSlot := rfl
@[simp] theorem State.closeBuffer_dumpLive : (s.closeBuffer).dumpLive = s.dumpLive := rfl
@[simp] theorem State.closeBuffer_cfg : (s.closeBuffer).cfg = s.cfg := rfl
@[simp] theorem State.closeBuffer_draws : (s.closeBuffer).draws = s.draws := rfl
@[simp] theorem State.closeBuffer_wasReset : (s.closeBuffer).wasReset = s.wasReset := rfl
@[simp] theorem State.closeBuffer_port : (s.closeBuffer).port = s.port := rfl

/-! ### `State.claimSlot` -/

@[simp] theorem State.claimSlot_lc (m : Memory) : (s.claimSlot m).lc = s.lc := rfl
@[simp] theorem State.claimSlot_cap (m : Memory) : (s.claimSlot m).cap = s.cap := rfl
@[simp] theorem State.claimSlot_cnt (m : Memory) : (s.claimSlot m).cnt = s.cnt + 1 := rfl
@[simp] theorem State.claimSlot_wr (m : Memory) : (s.claimSlot m).wr = nextSlot s.wr s.cap := rfl
@[simp] theorem State.claimSlot_rd (m : Memory) : (s.claimSlot m).rd = s.rd := rfl
@[simp] theorem State.claimSlot_mem (m : Memory) : (s.claimSlot m).mem = m := rfl
@[simp] theorem State.claimSlot_respValid (m : Memory) : (s.claimSlot m).respValid = s.respValid := rfl
@[simp] theorem State.claimSlot_respStatus (m : Memory) : (s.claimSlot m).respStatus = s.respStatus := rfl
@[simp] theorem State.claimSlot_respData (m : Memory) : (s.claimSlot m).respData = s.respData := rfl
@[simp] theorem State.claimSlot_dumpSlot (m : Memory) : (s.claimSlot m).dumpSlot = s.dumpSlot := rfl
@[simp] theorem State.claimSlot_dumpLive (m : Memory) : (s.claimSlot m).dumpLive = s.dumpLive := rfl
@[simp] theorem State.claimSlot_cfg (m : Memory) : (s.claimSlot m).cfg = s.cfg := rfl
@[simp] theorem State.claimSlot_draws (m : Memory) : (s.claimSlot m).draws = s.draws := rfl
@[simp] theorem State.claimSlot_wasReset (m : Memory) : (s.claimSlot m).wasReset = s.wasReset := rfl
@[simp] theorem State.claimSlot_port (m : Memory) : (s.claimSlot m).port = s.port := rfl

/-! ### `State.releaseSlot` -/

@[simp] theorem State.releaseSlot_lc : (s.releaseSlot).lc = s.lc := rfl
@[simp] theorem State.releaseSlot_cap : (s.releaseSlot).cap = s.cap := rfl
@[simp] theorem State.releaseSlot_cnt : (s.releaseSlot).cnt = s.cnt - 1 := rfl
@[simp] theorem State.releaseSlot_wr : (s.releaseSlot).wr = s.wr := rfl
@[simp] theorem State.releaseSlot_rd : (s.releaseSlot).rd = nextSlot s.rd s.cap := rfl
@[simp] theorem State.releaseSlot_mem : (s.releaseSlot).mem = s.mem := rfl
@[simp] theorem State.releaseSlot_respValid : (s.releaseSlot).respValid = s.respValid := rfl
@[simp] theorem State.releaseSlot_respStatus : (s.releaseSlot).respStatus = s.respStatus := rfl
@[simp] theorem State.releaseSlot_respData : (s.releaseSlot).respData = s.respData := rfl
@[simp] theorem State.releaseSlot_dumpSlot : (s.releaseSlot).dumpSlot = s.dumpSlot := rfl
@[simp] theorem State.releaseSlot_dumpLive : (s.releaseSlot).dumpLive = s.dumpLive := rfl
@[simp] theorem State.releaseSlot_cfg : (s.releaseSlot).cfg = s.cfg := rfl
@[simp] theorem State.releaseSlot_draws : (s.releaseSlot).draws = s.draws := rfl
@[simp] theorem State.releaseSlot_wasReset : (s.releaseSlot).wasReset = s.wasReset := rfl
@[simp] theorem State.releaseSlot_port : (s.releaseSlot).port = s.port := rfl

/-! ### `State.loadSnapshot` -/

@[simp] theorem State.loadSnapshot_lc : (s.loadSnapshot).lc = s.lc := rfl
@[simp] theorem State.loadSnapshot_cap : (s.loadSnapshot).cap = s.cap := rfl
@[simp] theorem State.loadSnapshot_cnt : (s.loadSnapshot).cnt = s.cnt := rfl
@[simp] theorem State.loadSnapshot_wr : (s.loadSnapshot).wr = s.wr := rfl
@[simp] theorem State.loadSnapshot_rd : (s.loadSnapshot).rd = s.rd := rfl
@[simp] theorem State.loadSnapshot_mem : (s.loadSnapshot).mem = s.mem := rfl
@[simp] theorem State.loadSnapshot_respValid : (s.loadSnapshot).respValid = s.respValid := rfl
@[simp] theorem State.loadSnapshot_respStatus : (s.loadSnapshot).respStatus = s.respStatus := rfl
@[simp] theorem State.loadSnapshot_respData : (s.loadSnapshot).respData = s.respData := rfl
@[simp] theorem State.loadSnapshot_dumpSlot : (s.loadSnapshot).dumpSlot = (List.range s.cfg.depthMax).map (snapshotWord s) := rfl
@[simp] theorem State.loadSnapshot_dumpLive : (s.loadSnapshot).dumpLive = (List.range s.cfg.depthMax).map (snapshotLive s) := rfl
@[simp] theorem State.loadSnapshot_cfg : (s.loadSnapshot).cfg = s.cfg := rfl
@[simp] theorem State.loadSnapshot_draws : (s.loadSnapshot).draws = s.draws + s.cfg.depthMax := rfl
@[simp] theorem State.loadSnapshot_wasReset : (s.loadSnapshot).wasReset = s.wasReset := rfl
@[simp] theorem State.loadSnapshot_port : (s.loadSnapshot).port = s.port := rfl

/-! ### `resetEdge` -/

@[simp] theorem resetEdge_lc : (resetEdge s).lc = .uninit := rfl
@[simp] theorem resetEdge_cap : (resetEdge s).cap = 0 := rfl
@[simp] theorem resetEdge_cnt : (resetEdge s).cnt = 0 := rfl
@[simp] theorem resetEdge_wr : (resetEdge s).wr = 0 := rfl
@[simp] theorem resetEdge_rd : (resetEdge s).rd = 0 := rfl
@[simp] theorem resetEdge_mem : (resetEdge s).mem = [] := rfl
@[simp] theorem resetEdge_respValid : (resetEdge s).respValid = false := rfl
@[simp] theorem resetEdge_respStatus : (resetEdge s).respStatus = 0 := rfl
@[simp] theorem resetEdge_respData : (resetEdge s).respData = 0 := rfl
@[simp] theorem resetEdge_dumpSlot : (resetEdge s).dumpSlot = freeWords s.draws s.cfg.depthMax := rfl
@[simp] theorem resetEdge_dumpLive : (resetEdge s).dumpLive = List.replicate s.cfg.depthMax false := rfl
@[simp] theorem resetEdge_cfg : (resetEdge s).cfg = s.cfg := rfl
@[simp] theorem resetEdge_draws : (resetEdge s).draws = s.draws + s.cfg.depthMax := rfl
@[simp] theorem resetEdge_wasReset : (resetEdge s).wasReset = true := rfl
@[simp] theorem resetEdge_port : (resetEdge s).port = s.port := rfl

/-! ### `idleEdge` -/

@[simp] theorem idleEdge_lc : (idleEdge s).lc = s.lc := rfl
@[simp] theorem idleEdge_cap : (idleEdge s).cap = s.cap := rfl
@[simp] theorem idleEdge_cnt : (idleEdge s).cnt = s.cnt := rfl
@[simp] theorem idleEdge_wr : (idleEdge s).wr = s.wr := rfl
@[simp] theorem idleEdge_rd : (idleEdge s).rd = s.rd := rfl
@[simp] theorem idleEdge_mem : (idleEdge s).mem = s.mem := rfl
@[simp] theorem idleEdge_respValid : (idleEdge s).respValid = false := rfl
@[simp] theorem idleEdge_respStatus : (idleEdge s).respStatus = s.respStatus := rfl
@[simp] theorem idleEdge_respData : (idleEdge s).respData = s.respData := rfl
@[simp] theorem idleEdge_dumpSlot : (idleEdge s).dumpSlot = s.dumpSlot := rfl
@[simp] theorem idleEdge_dumpLive : (idleEdge s).dumpLive = s.dumpLive := rfl
@[simp] theorem idleEdge_cfg : (idleEdge s).cfg = s.cfg := rfl
@[simp] theorem idleEdge_draws : (idleEdge s).draws = s.draws := rfl
@[simp] theorem idleEdge_wasReset : (idleEdge s).wasReset = s.wasReset := rfl
@[simp] theorem idleEdge_port : (idleEdge s).port = s.port := rfl

/-! ### `State.present` -/

@[simp] theorem State.present_lc (w : CommandWord) : (s.present w).lc = s.lc := rfl
@[simp] theorem State.present_cap (w : CommandWord) : (s.present w).cap = s.cap := rfl
@[simp] theorem State.present_cnt (w : CommandWord) : (s.present w).cnt = s.cnt := rfl
@[simp] theorem State.present_wr (w : CommandWord) : (s.present w).wr = s.wr := rfl
@[simp] theorem State.present_rd (w : CommandWord) : (s.present w).rd = s.rd := rfl
@[simp] theorem State.present_mem (w : CommandWord) : (s.present w).mem = s.mem := rfl
@[simp] theorem State.present_respValid (w : CommandWord) : (s.present w).respValid = s.respValid := rfl
@[simp] theorem State.present_respStatus (w : CommandWord) : (s.present w).respStatus = s.respStatus := rfl
@[simp] theorem State.present_respData (w : CommandWord) : (s.present w).respData = s.respData := rfl
@[simp] theorem State.present_dumpSlot (w : CommandWord) : (s.present w).dumpSlot = s.dumpSlot := rfl
@[simp] theorem State.present_dumpLive (w : CommandWord) : (s.present w).dumpLive = s.dumpLive := rfl
@[simp] theorem State.present_cfg (w : CommandWord) : (s.present w).cfg = s.cfg := rfl
@[simp] theorem State.present_draws (w : CommandWord) : (s.present w).draws = s.draws := rfl
@[simp] theorem State.present_wasReset (w : CommandWord) : (s.present w).wasReset = s.wasReset := rfl
@[simp] theorem State.present_port (w : CommandWord) : (s.present w).port = PortSample.ofWord w :: s.port.tail := rfl

end Sys2Proof.Machine
end

