-- ==== Sys2Proof/Laws/Ops.lean ====
section
/-!
SUPPORT. One law per shared operation: everything it can do. Proofs cite these and unfold no operation.
-/

namespace Sys2Proof.Machine

@[simp] theorem respond_eq (e : Status) (data : Word) (s : State) :
    respond e data s = .next (s.loadResponse e.code data) := rfl

@[simp] theorem raise_eq (e : Status) (s : State) : raise e s = .next (s.loadResponse e.code 0) := rfl

theorem whenActive_active {s : State} (h : s.lc = .active) (body : Host.Outcome State Fault Refusal) :
    whenActive s body = body := if_pos h

theorem whenActive_inactive {s : State} (h : s.lc ≠ .active) (body : Host.Outcome State Fault Refusal) :
    whenActive s body = .next (s.loadResponse 3 0) := if_neg h

/-- When a guarded command answers a next state: by the lifecycle error, or by its body in ACTIVE. -/
theorem whenActive_next {s t : State} {body : Host.Outcome State Fault Refusal} (h : whenActive s body = .next t) :
    (s.lc ≠ .active ∧ t = s.loadResponse 3 0) ∨ (s.lc = .active ∧ body = .next t) := by
  by_cases hl : s.lc = .active
  · rw [whenActive_active hl] at h
    exact .inr ⟨hl, h⟩
  · rw [whenActive_inactive hl] at h
    cases h
    exact .inl ⟨hl, rfl⟩

/-- A guarded access hands a value on exactly when the access gives one. -/
theorem andThen_next {α : Type} {x : Host.Outcome α Fault Refusal} {f : α → Host.Outcome State Fault Refusal}
    {t : State} : andThen x f = .next t ↔ ∃ a, x = .next a ∧ f a = .next t := by
  cases x <;> simp [andThen]

/-- Everything a slot read can do. -/
theorem slotRead_next {i : Nat} {s : State} {v : Word} :
    slotRead i s = .next v ↔ i < s.cap ∧ i < s.cfg.depthMax ∧ s.mem.read i = some v := by
  unfold slotRead
  split
  · simp; omega
  · split
    · simp; omega
    · split <;> simp_all

/-- Everything a slot write can do. -/
theorem slotWrite_next {i : Nat} {s : State} {v : Word} {m : Memory} :
    slotWrite i v s = .next m ↔ i < s.cap ∧ i < s.cfg.depthMax ∧ m = s.mem.write i v := by
  unfold slotWrite
  split
  · simp; omega
  · split
    · simp; omega
    · simp only [Host.Outcome.next.injEq]
      constructor
      · exact fun h => ⟨by omega, by omega, h.symm⟩
      · exact fun h => h.2.2.symm

theorem isFull_iff_cnt (s : State) : isFull s = true ↔ s.cnt = s.cap := by simp [isFull]

theorem isEmpty_iff_cnt (s : State) : isEmpty s = true ↔ s.cnt = 0 := by simp [isEmpty]

/-- Rule R162 without negative numbers: in ACTIVE the live test counts forward from `rd`. -/
theorem slotLive_iff {s : State} {i : Nat} (hr : s.rd < s.cap) :
    slotLive s i = true ↔ (i + (s.cap - s.rd)) % s.cap < s.cnt := by
  have key : ((i : Int) - (s.rd : Int)) % (s.cap : Int) = (((i + (s.cap - s.rd)) % s.cap : Nat) : Int) := by
    push_cast [Nat.cast_sub hr.le]
    rw [← Int.add_emod_right]
    congr 1
    omega
  simp only [slotLive, decide_eq_true_eq, key]
  omega

/-- A snapshot has one entry for each of the DEPTH_MAX slots. -/
theorem loadSnapshot_lengths (s : State) :
    s.loadSnapshot.dumpSlot.length = s.cfg.depthMax ∧ s.loadSnapshot.dumpLive.length = s.cfg.depthMax := by
  simp

@[simp] theorem freeWords_length (d n : Nat) : (freeWords d n).length = n := by simp [freeWords]

/-- What DUMP shows for a slot below `cap` that was written is its content. -/
theorem snapshotWord_written {s : State} {i : Nat} {v : Word} (hi : i < s.cap) (h : s.mem.read i = some v) :
    snapshotWord s i = v := by
  simp [snapshotWord, hi, h]

end Sys2Proof.Machine
end

