-- ==== Sys2Proof/Laws/Commands.lean ====
section
/-!
SUPPORT. One inversion law per command: if it answers a next state, then by one of these ways, each with the guard that
leads to it.
-/

namespace Sys2Proof.Machine

theorem execConstruct_next {n : Nat} {s t : State} (h : execConstruct n s = .next t) :
    (s.lc ≠ .uninit ∧ t = s.loadResponse 3 0) ∨
    (s.lc = .uninit ∧ n = 0 ∧ t = s.loadResponse 1 0) ∨
    (s.lc = .uninit ∧ n ≠ 0 ∧ s.cfg.depthMax < n ∧ t = s.loadResponse 2 0) ∨
    (s.lc = .uninit ∧ 1 ≤ n ∧ n ≤ s.cfg.depthMax ∧ t = (s.openBuffer n).loadResponse 0 0) := by
  unfold execConstruct at h
  split at h
  · exact .inl ⟨‹_›, by cases h; rfl⟩
  · have hl : s.lc = .uninit := by simpa using ‹¬ s.lc ≠ .uninit›
    split at h
    · exact .inr (.inl ⟨hl, ‹_›, by cases h; rfl⟩)
    · split at h
      · exact .inr (.inr (.inl ⟨hl, ‹_›, ‹_›, by cases h; rfl⟩))
      · exact .inr (.inr (.inr ⟨hl, by omega, by omega, by cases h; rfl⟩))

theorem execDestroy_next {s t : State} (h : execDestroy s = .next t) :
    (s.lc ≠ .active ∧ t = s.loadResponse 3 0) ∨ (s.lc = .active ∧ t = s.closeBuffer.loadResponse 0 0) :=
  (whenActive_next h).imp_right fun ⟨hl, hb⟩ => ⟨hl, by cases hb; rfl⟩

theorem execIsfull_next {s t : State} (h : execIsfull s = .next t) :
    (s.lc ≠ .active ∧ t = s.loadResponse 3 0) ∨
    (s.lc = .active ∧ t = s.loadResponse 0 (if s.cnt = s.cap then 1 else 0)) :=
  (whenActive_next h).imp_right fun ⟨hl, hb⟩ => ⟨hl, by cases hb; simp [isFull, Status.code]⟩

theorem execIsempty_next {s t : State} (h : execIsempty s = .next t) :
    (s.lc ≠ .active ∧ t = s.loadResponse 3 0) ∨
    (s.lc = .active ∧ t = s.loadResponse 0 (if s.cnt = 0 then 1 else 0)) :=
  (whenActive_next h).imp_right fun ⟨hl, hb⟩ => ⟨hl, by cases hb; simp [isEmpty, Status.code]⟩

theorem execOccupancy_next {s t : State} (h : execOccupancy s = .next t) :
    (s.lc ≠ .active ∧ t = s.loadResponse 3 0) ∨ (s.lc = .active ∧ t = s.loadResponse 0 (zext32 s.cnt)) :=
  (whenActive_next h).imp_right fun ⟨hl, hb⟩ => ⟨hl, by cases hb; rfl⟩

theorem execDump_next {s t : State} (h : execDump s = .next t) :
    (s.lc ≠ .active ∧ t = s.loadResponse 3 0) ∨
    (s.lc = .active ∧ t = s.loadSnapshot.loadResponse 0 (zext32 s.cap)) :=
  (whenActive_next h).imp_right fun ⟨hl, hb⟩ => ⟨hl, by cases hb; rfl⟩

theorem execWrite_next {v : Word} {s t : State} (h : execWrite v s = .next t) :
    (s.lc ≠ .active ∧ t = s.loadResponse 3 0) ∨
    (s.lc = .active ∧ s.cnt = s.cap ∧ t = s.loadResponse 4 0) ∨
    (s.lc = .active ∧ s.cnt ≠ s.cap ∧ s.wr < s.cap ∧ s.wr < s.cfg.depthMax ∧
      t = (s.claimSlot (s.mem.write s.wr v)).loadResponse 0 0) := by
  rcases whenActive_next h with h | ⟨hl, h⟩
  · exact .inl h
  · split at h
    · exact .inr (.inl ⟨hl, (isFull_iff_cnt s).mp ‹_›, by cases h; rfl⟩)
    · obtain ⟨m, hm, ht⟩ := andThen_next.mp h
      obtain ⟨h1, h2, rfl⟩ := slotWrite_next.mp hm
      exact .inr (.inr ⟨hl, fun hf => ‹¬ _› ((isFull_iff_cnt s).mpr hf), h1, h2, by cases ht; rfl⟩)

theorem execRead_next {s t : State} (h : execRead s = .next t) :
    (s.lc ≠ .active ∧ t = s.loadResponse 3 0) ∨
    (s.lc = .active ∧ s.cnt = 0 ∧ t = s.loadResponse 5 0) ∨
    (s.lc = .active ∧ s.cnt ≠ 0 ∧ s.rd < s.cap ∧ s.rd < s.cfg.depthMax ∧
      ∃ v, s.mem.read s.rd = some v ∧ t = s.releaseSlot.loadResponse 0 v) := by
  rcases whenActive_next h with h | ⟨hl, h⟩
  · exact .inl h
  · split at h
    · exact .inr (.inl ⟨hl, (isEmpty_iff_cnt s).mp ‹_›, by cases h; rfl⟩)
    · obtain ⟨v, hv, ht⟩ := andThen_next.mp h
      obtain ⟨h1, h2, h3⟩ := slotRead_next.mp hv
      exact .inr (.inr ⟨hl, fun he => ‹¬ _› ((isEmpty_iff_cnt s).mpr he), h1, h2, v, h3, by cases ht; rfl⟩)

end Sys2Proof.Machine
end

