-- ==== Sys2Proof/Laws/PerInstr.lean ====
section
/-!
SUPPORT. Statements about every command, one lemma per constructor: the encoder puts the opcode and the operand where
rule R71 has them.
-/

namespace Sys2Proof.Machine

@[simp] theorem opField_commandWord (op : Opcode) (arg : Word) : opField (commandWord op arg) = op :=
  BitVec.extractLsb'_append_eq_left

@[simp] theorem argField_commandWord (op : Opcode) (arg : Word) : argField (commandWord op arg) = arg :=
  BitVec.extractLsb'_append_eq_right

end Sys2Proof.Machine

namespace Sys2Proof.Laws.FieldPlaces

open Sys2Proof.Machine

/-- The two fields of a command's word are its opcode and its operand. -/
def Statement (i : Instr) : Prop := opField (encode i) = opcodeOf i ∧ argField (encode i) = argOf i

theorem construct (n : Nat) : Statement (.construct n) := ⟨opField_commandWord _ _, argField_commandWord _ _⟩

theorem destroy : Statement .destroy := ⟨opField_commandWord _ _, argField_commandWord _ _⟩

theorem isfull : Statement .isfull := ⟨opField_commandWord _ _, argField_commandWord _ _⟩

theorem isempty : Statement .isempty := ⟨opField_commandWord _ _, argField_commandWord _ _⟩

theorem write (v : Word) : Statement (.write v) := ⟨opField_commandWord _ _, argField_commandWord _ _⟩

theorem read : Statement .read := ⟨opField_commandWord _ _, argField_commandWord _ _⟩

theorem occupancy : Statement .occupancy := ⟨opField_commandWord _ _, argField_commandWord _ _⟩

theorem dump : Statement .dump := ⟨opField_commandWord _ _, argField_commandWord _ _⟩

end Sys2Proof.Laws.FieldPlaces
end

