-- ==== Sys2Proof/Laws/Step.lean ====
section
/-!
SUPPORT. What an edge and a step can do, said once, and how a run of the machine begins.
-/

namespace Sys2Proof.Machine

/-- Everything an edge can do when it gives a next state. -/
theorem clockEdge_next {p : PortSample} {s t : State} (h : clockEdge p s = .next t) :
    (p.rst = true ∧ t = resetEdge s) ∨
    (p.rst = false ∧ p.cmdValid = true ∧ s.wasReset = true ∧ exec p.command s = .next t) ∨
    (p.rst = false ∧ p.cmdValid = false ∧ t = idleEdge s) := by
  unfold clockEdge at h
  split at h
  · exact .inl ⟨‹_›, by cases h; rfl⟩
  · rename_i hr
    split at h
    · split at h
      · exact .inr (.inl ⟨by simpa using hr, ‹_›, ‹_›, h⟩)
      · cases h
    · rename_i hc
      exact .inr (.inr ⟨by simpa using hr, by simpa using hc, by cases h; rfl⟩)

/-- A step uses up the next sample. -/
theorem step_cons {s : State} {p : PortSample} {rest : List PortSample} (h : s.port = p :: rest) :
    step s = clockEdge p { s with port := rest } := by
  simp [step, stepOnce, h]

/-- A step that gives a next state used up a sample. -/
theorem step_next {s t : State} (h : step s = .next t) :
    ∃ p rest, s.port = p :: rest ∧ clockEdge p { s with port := rest } = .next t := by
  cases hp : s.port with
  | nil => simp [step, stepOnce, hp] at h
  | cons p rest => exact ⟨p, rest, rfl, (step_cons hp).symm.trans h⟩

/-- A run of the machine goes on from the state after its first step. -/
theorem run_next {k : Nat} {s t : State} (h : step s = .next t) :
    Host.Core.run Sys2Proof.core (k + 1) s = Host.Core.run Sys2Proof.core k t := by
  simp only [Host.Core.run]
  rw [show Sys2Proof.core.step s = .next t from h]

@[simp] theorem PortSample.ofWord_rst (w : CommandWord) : (PortSample.ofWord w).rst = false := rfl

@[simp] theorem PortSample.ofWord_cmdValid (w : CommandWord) : (PortSample.ofWord w).cmdValid = true := rfl

end Sys2Proof.Machine
end

