-- ==== Sys2Proof/Laws/Text.lean ====
section
/-!
SUPPORT. Laws of the textual syntax. They say of the mnemonics, the status names and the digits all that a proof about
lines needs, so that no proof unfolds the names themselves.
-/

namespace Sys2Proof.Machine

/-- Characters that part the words of a line, start its comment or start its arrow. -/
abbrev lineMarks : List Char := [' ', '\t', ';', '-']

/-- Every command has a mnemonic, and no mark stands in it. -/
theorem mnemonicText_is_a_word (i : Instr) : mnemonicText i ≠ [] ∧ ∀ c ∈ mnemonicText i, c ∉ lineMarks := by
  cases i <;> simp [mnemonicText, lineMarks]

/-- Two commands share a mnemonic only if they share the opcode. -/
theorem mnemonicText_eq_iff (i j : Instr) : mnemonicText i = mnemonicText j ↔ opcodeOf i = opcodeOf j := by
  cases i <;> cases j <;> (dsimp only [mnemonicText, opcodeOf]; decide)

/-- The reader gives back the status of every name. -/
theorem readStatus_statusText (e : Status) : readStatus (statusText e) = some e := by
  cases e <;> decide

/-- Only a status's own name is read as that status. -/
theorem statusText_of_readStatus {cs : List Char} {e : Status} (h : readStatus cs = some e) : cs = statusText e := by
  unfold readStatus at h
  repeat' split at h
  all_goals cases h
  all_goals assumption

/-- The reader gives back the value of every digit the writer writes, and no such digit is a mark or a `_`. -/
theorem digitValue_of_written_digit : ∀ d < 16, digitValue (digitChars.getD d '0') = some d ∧
    digitChars.getD d '0' ∉ '_' :: lineMarks := by decide

end Sys2Proof.Machine
end

