-- ==== Sys2Proof/Tests/Slice0.lean ====
section
/-!
SUPPORT. The model's own tests. Expected results are those of spec/95_test_vectors.md (the vector is named) or are worked
out by hand from the rule named. The second half shows, for every statement that has hypotheses, a state and operands that
meet them together.
-/

namespace Sys2Proof.Tests

open Sys2Proof Sys2Proof.Machine

/-! ### Small states -/

/-- A state after reset with the five registers and the slots as given (DEPTH_MAX = 8). -/
def mk (lc : Lifecycle) (cap cnt wr rd : Nat) (mem : Memory) : State :=
  { lc := lc, cap := cap, cnt := cnt, wr := wr, rd := rd, mem := mem
    respValid := false, respStatus := 0, respData := 0
    dumpSlot := [0, 0, 0, 0, 0, 0, 0, 0]
    dumpLive := [false, false, false, false, false, false, false, false]
    cfg := { depthMax := 8 }, draws := 8, wasReset := true, port := [] }

def uninit : State := mk .uninit 0 0 0 0 []
def destroyed : State := mk .destroyed 0 0 0 0 []
/-- Straight after CONSTRUCT 4. -/
def fresh : State := mk .active 4 0 0 0 []
/-- Vector DA2's state, x = 10. -/
def mid : State := mk .active 4 2 3 1 [(0, 10), (1, 20), (2, 30)]
/-- Vector DA3's state. -/
def full : State := mk .active 4 4 1 1 [(0, 50), (1, 20), (2, 30), (3, 40)]
/-- Vector DA9's state: the read cursor wraps. -/
def last : State := mk .active 4 1 0 3 [(0, 10), (1, 20), (2, 30), (3, 40)]
/-- Vector DA10's state. -/
def drained : State := mk .active 4 0 1 1 [(0, 50), (1, 20), (2, 30), (3, 40)]
/-- Vector QY4's state: one slot, full. -/
def single : State := mk .active 1 1 0 0 [(0, 0xFFFFFFFF)]
/-- States no run reaches: a cursor at `cap`, a capacity above DEPTH_MAX, a live slot that holds ⊥. -/
def cursorAtCap : State := mk .active 4 2 4 4 [(1, 20), (2, 30)]
def capBeyondDepth : State := mk .active 9 2 8 8 []
def liveHole : State := mk .active 4 1 1 0 []

/-- The state after a command, or the state before it where the command stops. -/
def after (i : Instr) (s : State) : State :=
  match exec i s with
  | .next t => t
  | .fault _ => s
  | .refused _ => s

/-- The five registers and the slots. -/
structure Regs where
  lc : Lifecycle
  cap : Nat
  cnt : Nat
  wr : Nat
  rd : Nat
  mem : Memory
  deriving DecidableEq

def regs (s : State) : Regs := ⟨s.lc, s.cap, s.cnt, s.wr, s.rd, s.mem⟩

/-- The response a command leaves. -/
def answer (i : Instr) (s : State) : Bool × StatusCode × Word :=
  ((after i s).respValid, (after i s).respStatus, (after i s).respData)

/-! ### Well-formedness: the one check, an ill-formed and a well-formed term -/

theorem test_wellFormed_refuses_capacity_of_33_bits : Instr.wellFormed (.construct 4294967296) = false := by decide
theorem test_wellFormed_takes_largest_capacity : Instr.wellFormed (.construct 4294967295) = true := by decide

/-! ### Decoding: words written bit by bit, op (3 bits) then arg (32 bits), from rule R71 and rule R74 -/

theorem test_decode_construct :
    decode 0b000_00000000000000000000000000000100 = .construct 4 := by decide
theorem test_decode_construct_largest :
    decode 0b000_11111111111111111111111111111111 = .construct 4294967295 := by decide
theorem test_decode_destroy_ignores_arg :
    decode 0b001_11111111111111111111111111111111 = .destroy := by decide
theorem test_decode_isfull_ignores_arg :
    decode 0b010_00000000000000000000000000000001 = .isfull := by decide
theorem test_decode_isempty_ignores_arg :
    decode 0b011_10000000000000000000000000000000 = .isempty := by decide
theorem test_decode_write :
    decode 0b100_10000000000000000000000000001010 = .write 0x8000000A := by decide
theorem test_decode_read_ignores_arg :
    decode 0b101_00010010001101000101011001111000 = .read := by decide
theorem test_decode_occupancy :
    decode 0b110_00000000000000000000000000000001 = .occupancy := by decide
theorem test_decode_dump_ignores_arg :
    decode 0b111_10101011110011010000000100100011 = .dump := by decide
theorem test_table_word_write : decodeTableWord 40 0x40000000A = some (.write 10) := by decide
theorem test_number_of_36_bits_is_no_command : decodeNumber 0x800000000 = .error .notACommandWord := by decide
theorem test_encode_write : encode (.write 0xDEADBEEF) = 0x4DEADBEEF := by decide

/-! ### Commands -/

/-- LC4. -/
theorem test_construct_deepest : regs (after (.construct 8) uninit) = ⟨.active, 8, 0, 0, 0, []⟩ := by decide
/-- LC1, LC2, LC7: the order of the checks. -/
theorem test_construct_errors :
    (answer (.construct 0) uninit, answer (.construct 9) uninit, answer (.construct 0) mid) =
      ((true, 1, 0), (true, 2, 0), (true, 3, 0)) := by decide
/-- LC9 and LC11. -/
theorem test_destroy : regs (after .destroy mid) = ⟨.destroyed, 0, 0, 0, 0, []⟩ ∧
    answer .destroy destroyed = (true, 3, 0) := by decide
/-- QY2, QY3, QY8. -/
theorem test_isfull : (answer .isfull full, answer .isfull mid, answer .isfull uninit) =
    ((true, 0, 1), (true, 0, 0), (true, 3, 0)) := by decide
/-- QY2 and L1.1's end state: equal cursors, told apart by the counter. -/
theorem test_isempty : (answer .isempty full, answer .isempty drained) = ((true, 0, 0), (true, 0, 1)) := by decide
/-- QY2 and QY9. -/
theorem test_occupancy : (answer .occupancy full, answer .occupancy destroyed) = ((true, 0, 4), (true, 3, 0)) := by decide
/-- DA2: the write cursor wraps. -/
theorem test_write_wraps :
    regs (after (.write 50) mid) = ⟨.active, 4, 3, 0, 1, [(0, 10), (1, 20), (2, 30), (3, 50)]⟩ := by decide
/-- DA3 and DA5. -/
theorem test_write_errors : answer (.write 7) full = (true, 4, 0) ∧ regs (after (.write 7) full) = regs full ∧
    answer (.write 7) destroyed = (true, 3, 0) := by decide
/-- DA9: the read cursor wraps forward, and the slot keeps its value. -/
theorem test_read_wraps : answer .read last = (true, 0, 40) ∧
    regs (after .read last) = ⟨.active, 4, 0, 0, 0, last.mem⟩ := by decide
/-- DA10 and DA11. -/
theorem test_read_errors : (answer .read drained, answer .read uninit) = ((true, 5, 0), (true, 3, 0)) := by decide
/-- DU3's mask, with stale slots shown. -/
theorem test_dump_mask :
    (after .dump (mk .active 4 2 1 3 [(0, 5), (1, 6), (2, 7), (3, 8)])).dumpLive =
      [true, false, false, true, false, false, false, false] ∧
    ((after .dump (mk .active 4 2 1 3 [(0, 5), (1, 6), (2, 7), (3, 8)])).dumpSlot.take 4) = [5, 6, 7, 8] := by decide
/-- DU6. -/
theorem test_dump_error_keeps_snapshot : answer .dump uninit = (true, 3, 0) ∧
    (after .dump uninit).dumpSlot = uninit.dumpSlot := by decide

/-! ### Edges -/

/-- What an edge leaves. -/
def edge (p : PortSample) (s : State) : State :=
  match step { s with port := [p] } with
  | .next t => t
  | .fault _ => s
  | .refused _ => s

/-- RS2: reset wins over a WRITE. -/
theorem test_reset_wins : regs (edge ⟨true, true, 4, 7⟩ mid) = ⟨.uninit, 0, 0, 0, 0, []⟩ ∧
    (edge ⟨true, true, 4, 7⟩ mid).respValid = false ∧ emptyO (edge ⟨true, true, 4, 7⟩ mid) = false := by decide
/-- RS4: an idle edge. -/
theorem test_idle : regs (edge ⟨false, false, 4, 7⟩ (after .isfull mid)) = regs mid ∧
    (edge ⟨false, false, 4, 7⟩ (after .isfull mid)).respValid = false := by decide
/-- The first command after reset, presented as a word. -/
theorem test_fetch_word_runs : (match step (State.reset.withFetchWord 40 0x000000004) with
    | .next t => decide (t.lc = .active ∧ t.cap = 4)
    | _ => false) = true := by decide
theorem test_empty_list_ends_run : step State.reset = .refused .endOfRun := by rfl

/-! ### Text (rules R81, R82) -/

theorem test_digit_values :
    ['0', '9', 'A', 'F', 'a', 'f', 'G', 'g', '/', ':'].map digitValue =
      [some 0, some 9, some 10, some 15, some 10, some 15, none, none, none, none] := by decide
theorem test_text_write : readLine "WRITE 0xDEADBEEF -> OK 0 ; a comment".toList =
    some (.write 0xDEADBEEF, some ⟨.ok, some 0⟩) := by decide
theorem test_text_operand_on_read : readLine "READ 1".toList = none := by decide

/-! ### Witnesses: the invariant and reachability -/

theorem uninit_inv : uninit.Inv := by constructor <;> decide
theorem destroyed_inv : destroyed.Inv := by constructor <;> decide
theorem fresh_inv : fresh.Inv := by constructor <;> decide
theorem mid_inv : mid.Inv := by constructor <;> decide
theorem full_inv : full.Inv := by constructor <;> decide
theorem last_inv : last.Inv := by constructor <;> decide
theorem drained_inv : drained.Inv := by constructor <;> decide
theorem single_inv : single.Inv := by constructor <;> decide

theorem reset_edge_reachable : Reachable (resetEdge { uninit with port := [presenting (.construct 4), presenting .destroy] }) :=
  .reset _ (by decide)
theorem active_reachable : ∃ s, Reachable s ∧ s.lc = .active ∧ s.cnt = 0 :=
  ⟨_, .step _ _ reset_edge_reachable rfl, rfl, rfl⟩
theorem destroyed_reachable : ∃ s, Reachable s ∧ s.lc = .destroyed :=
  ⟨_, .step _ _ (.step _ _ reset_edge_reachable rfl) rfl, rfl⟩

/-! ### Witnesses: one for each statement that has hypotheses, by the statement's name -/

theorem witness_IgnoredOperandNeverMatters : (1 : Opcode) ≠ 0 ∧ (1 : Opcode) ≠ 4 ∧ (7 : Opcode) ≠ 0 ∧ (7 : Opcode) ≠ 4 := by
  decide
theorem witness_DecodeAfterEncode : Instr.wellFormed (.construct 4294967295) = true ∧ Instr.wellFormed .dump = true := by
  decide
theorem witness_EncodeAfterDecode : opField 0x0FFFFFFFF = 0 ∧ opField 0x400000000 = 4 ∧
    opField 0x3FFFFFFFF ≠ 0 ∧ opField 0x3FFFFFFFF ≠ 4 := by decide
theorem witness_ResponseWordFormat : (after .read last).respValid = true ∧ last.respValid = false := by decide
theorem witness_ReservedStatusNeverDriven : (∃ s, Reachable s) ∧ ∃ t, exec (.write 7) full = .next t ∧ t.respStatus = 4 :=
  ⟨⟨_, reset_edge_reachable⟩, _, rfl, rfl⟩
theorem witness_CommandTextReadsBack : Instr.wellFormed (.construct 0) = true ∧ Instr.wellFormed (.write 4294967295) = true := by
  decide
theorem witness_CommandTextSyntax : readCommand [mnemonicText (.construct 4), ['4']] = some (.construct 4) := by decide
theorem witness_StepRunsDecodedCommand :
    let s := { mid with port := [PortSample.ofWord 0x500000000] }
    s.port = PortSample.ofWord 0x500000000 :: [] ∧ (PortSample.ofWord 0x500000000).rst = false ∧
      (PortSample.ofWord 0x500000000).cmdValid = true ∧ s.wasReset = true := by decide
theorem witness_FetchWordIsRunNext : 0x7FFFFFFFF < 2 ^ 40 ∧ 0x7FFFFFFFF < 2 ^ 35 ∧ uninit.wasReset = true ∧
    0x800000000 < 2 ^ 40 ∧ 2 ^ 35 ≤ 0x800000000 := by decide
theorem witness_ResetEdgeGivesResetValues :
    let p : PortSample := ⟨true, true, 4, 7⟩
    let s := { mid with port := [p, p] }
    s.port = p :: [p] ∧ p.rst = true := by decide
theorem witness_IdleEdgeOnlyClearsValid :
    let p : PortSample := ⟨false, false, 4, 7⟩
    let s := { mid with port := [p] }
    s.port = p :: [] ∧ p.rst = false ∧ p.cmdValid = false := by decide
theorem witness_CommandBeforeResetRefused :
    let s (p : PortSample) := { mid with wasReset := false, port := [p] }
    let command := PortSample.ofWord 0
    let resets : PortSample := ⟨true, true, 4, 7⟩
    let idle : PortSample := ⟨false, false, 4, 7⟩
    ((s command).port = command :: [] ∧ (s command).wasReset = false ∧ command.rst = false ∧ command.cmdValid = true) ∧
    ((s resets).port = resets :: [] ∧ (s resets).wasReset = false ∧ resets.rst = true) ∧
    ((s idle).port = idle :: [] ∧ (s idle).wasReset = false ∧ idle.rst = false ∧ idle.cmdValid = false) := by decide
theorem witness_RunEndsWithTheHostsList : mid.port = [] ∧ { mid with port := [PortSample.ofWord 0] }.port ≠ [] := by decide
theorem witness_ResponseLastsOneCycle : ∃ t, step { last with port := [presenting .read] } = .next t ∧ t.respValid = true :=
  ⟨_, rfl, rfl⟩
theorem witness_CommandStreamRunsInOrder :
    (∀ i ∈ [Instr.write 9, .read], i.wellFormed = true) ∧ fresh.wasReset = true ∧
      (answers [.write 9, .read] { fresh with port := [] }).map (·.1) = some [(0, 0), (0, 9)] := by decide
theorem witness_ResetEstablishesInvariant : capBeyondDepth.cfg.Legal := by decide
theorem witness_StepKeepsInvariant :
    { last with port := [presenting .read] }.Inv ∧ ∃ t, step { last with port := [presenting .read] } = .next t :=
  ⟨by constructor <;> decide, _, rfl⟩
theorem witness_ReachableRegistersInBounds : (∃ s, Reachable s ∧ s.lc = .active) ∧ ∃ s, Reachable s ∧ s.lc ≠ .active :=
  ⟨active_reachable.imp fun _ h => ⟨h.1, h.2.1⟩, destroyed_reachable.imp fun _ h => ⟨h.1, by simp [h.2]⟩⟩
theorem witness_ReachableCursorRelation : ∃ s, Reachable s ∧ s.lc = .active ∧ (s.cnt = 0 ∨ s.cnt = s.cap) :=
  active_reachable.imp fun _ h => ⟨h.1, h.2.1, .inl h.2.2⟩
theorem witness_ReachableAlwaysAnswers : (∃ s, Reachable s ∧ s.lc = .active) ∧ ∃ s, Reachable s ∧ s.lc = .destroyed :=
  ⟨active_reachable.imp fun _ h => ⟨h.1, h.2.1⟩, destroyed_reachable⟩
theorem witness_FlagOutputsFollowRegisters : full.lc = .active ∧ uninit.lc ≠ .active ∧ full.Inv ∧ uninit.Inv :=
  ⟨by decide, by decide, full_inv, uninit_inv⟩
theorem witness_FullAndEmptyExclude : (full.Inv ∧ full.lc = .active ∧ full.cnt = full.cap) ∧
    drained.Inv ∧ drained.lc = .active ∧ drained.cnt = 0 :=
  ⟨⟨full_inv, by decide⟩, drained_inv, by decide⟩
theorem witness_ConstructEffect :
    (single.Inv ∧ single.lc = .active ∧ single.cap = 1) ∧ mid.lc ≠ .uninit ∧ uninit.lc = .uninit ∧
      uninit.cfg.depthMax < 9 ∧ 1 ≤ 8 ∧ 8 ≤ uninit.cfg.depthMax :=
  ⟨⟨single_inv, by decide⟩, by decide⟩
theorem witness_StateAfterConstruct : ∃ t, exec (.construct 8) uninit = .next t ∧ t.respStatus = 0 ∧ uninit.lc = .uninit ∧
    t.lc = .active := ⟨_, rfl, by decide⟩
theorem witness_DestroyEffect : uninit.lc ≠ .active ∧ full.lc = .active ∧
    (∃ t, exec .destroy full = .next t ∧ t.lc = .destroyed) ∧ ∃ t, exec .read destroyed = .next t ∧ destroyed.lc = .destroyed :=
  ⟨by decide, by decide, ⟨_, rfl, by decide⟩, _, rfl, by decide⟩
theorem witness_LifecycleTransitions : (∃ t, exec (.construct 1) uninit = .next t ∧ t.lc ≠ uninit.lc) ∧
    (∃ t, exec .destroy full = .next t ∧ t.lc ≠ full.lc) ∧ (∃ t, exec .destroy destroyed = .next t) ∧
    { destroyed with port := [⟨true, false, 0, 0⟩] }.port = [⟨true, false, 0, 0⟩] :=
  ⟨⟨_, rfl, by decide⟩, ⟨_, rfl, by decide⟩, ⟨_, rfl⟩, rfl⟩
theorem witness_DestroyedAnswersInvalidState : ∃ t, exec .destroy mid = .next t ∧ t.respStatus = 0 := ⟨_, rfl, by decide⟩
theorem witness_IsfullEffect : uninit.lc ≠ .active ∧ (full.lc = .active ∧ full.cnt = full.cap) ∧
    (mid.lc = .active ∧ mid.cnt ≠ mid.cap) ∧ (single.Inv ∧ single.lc = .active ∧ single.cap = 1 ∧
      ∃ t u, exec .isfull single = .next t ∧ exec .isempty single = .next u) ∧
    full.Inv ∧ full.lc = .active ∧ full.wr = full.rd :=
  ⟨by decide, by decide, by decide, ⟨single_inv, by decide, by decide, _, _, rfl, rfl⟩, full_inv, by decide⟩
theorem witness_IsemptyEffect : uninit.lc ≠ .active ∧ (drained.lc = .active ∧ drained.cnt = 0) ∧
    (last.lc = .active ∧ last.cnt ≠ 0) ∧ drained.Inv ∧
    ∃ t u, exec .isfull drained = .next t ∧ exec .isempty drained = .next u :=
  ⟨by decide, by decide, by decide, drained_inv, _, _, rfl, rfl⟩
theorem witness_OccupancyEffect : destroyed.lc ≠ .active ∧ full.lc = .active ∧ full.Inv :=
  ⟨by decide, by decide, full_inv⟩
theorem witness_QueriesAgreeWithOutputs : full.lc = .active ∧ drained.lc = .active := by decide
theorem witness_DataCommandsTestTheQueries : full.Inv ∧ full.lc = .active ∧ drained.Inv ∧ drained.lc = .active :=
  ⟨full_inv, by decide, drained_inv, by decide⟩
theorem witness_WriteEffect : uninit.lc ≠ .active ∧ (full.lc = .active ∧ full.cnt = full.cap) ∧
    mid.lc = .active ∧ mid.cnt ≠ mid.cap ∧ mid.wr < mid.cap ∧ mid.wr < mid.cfg.depthMax ∧ mid.wr = mid.cap - 1 ∧ mid.Inv :=
  ⟨by decide, by decide, by decide, by decide, by decide, by decide, by decide, mid_inv⟩
theorem witness_SlotAssertions :
    (cursorAtCap.lc = .active ∧ cursorAtCap.cnt ≠ cursorAtCap.cap ∧ cursorAtCap.cap ≤ cursorAtCap.wr ∧
      cursorAtCap.cnt ≠ 0 ∧ cursorAtCap.cap ≤ cursorAtCap.rd) ∧
    (capBeyondDepth.lc = .active ∧ capBeyondDepth.cnt ≠ capBeyondDepth.cap ∧ capBeyondDepth.wr < capBeyondDepth.cap ∧
      capBeyondDepth.cfg.depthMax ≤ capBeyondDepth.wr ∧ capBeyondDepth.cnt ≠ 0 ∧ capBeyondDepth.rd < capBeyondDepth.cap ∧
      capBeyondDepth.cfg.depthMax ≤ capBeyondDepth.rd) ∧ mid.Inv :=
  ⟨by decide, by decide, mid_inv⟩
theorem witness_WriteFrame : mid.Inv ∧ mid.lc = .active ∧ mid.cnt ≠ mid.cap := ⟨mid_inv, by decide⟩
theorem witness_ReadEffect : uninit.lc ≠ .active ∧ (drained.lc = .active ∧ drained.cnt = 0) ∧
    (last.lc = .active ∧ last.cnt ≠ 0 ∧ last.rd < last.cap ∧ last.rd < last.cfg.depthMax ∧
      last.mem.read last.rd = some 40 ∧ last.rd = last.cap - 1 ∧ last.Inv) ∧
    liveHole.lc = .active ∧ liveHole.cnt ≠ 0 ∧ liveHole.rd < liveHole.cap ∧ liveHole.rd < liveHole.cfg.depthMax ∧
      liveHole.mem.read liveHole.rd = none :=
  ⟨by decide, by decide, ⟨by decide, by decide, by decide, by decide, by decide, by decide, last_inv⟩, by decide⟩
theorem witness_ReadFrame : last.Inv ∧ last.lc = .active ∧ last.cnt ≠ 0 := ⟨last_inv, by decide⟩
theorem witness_BoundaryFailuresChangeNothing : (∃ t, exec (.write 7) full = .next t ∧ t.respStatus = 4) ∧
    ∃ t, exec .read drained = .next t ∧ t.respStatus = 5 := ⟨⟨_, rfl, by decide⟩, _, rfl, by decide⟩
theorem witness_WriteComesBack : mid.Inv ∧ mid.lc = .active ∧ mid.cnt < mid.cap ∧
    (∀ i ∈ [Instr.read, .dump, .construct 4, .read], i ≠ .destroy ∧ ∀ w, i ≠ .write w) ∧
    [Instr.read, .dump, .construct 4, .read].count .read = mid.cnt :=
  ⟨mid_inv, by decide, by decide, by simp, by decide⟩
theorem witness_FifoOrder : drained.Inv ∧ drained.lc = .active ∧ drained.cnt = 0 ∧ [(1 : Word), 2, 3, 4].length ≤ drained.cap :=
  ⟨drained_inv, by decide⟩
theorem witness_WraparoundFillsAgain : drained.Inv ∧ drained.lc = .active ∧ drained.cnt = 0 ∧
    [(1 : Word), 2, 3, 4].length = drained.cap ∧ [(5 : Word), 6, 7].length < drained.cap ∧ fresh.rd = 0 :=
  ⟨drained_inv, by decide⟩
theorem witness_DumpEffect : uninit.lc ≠ .active ∧ mid.lc = .active ∧ 3 < mid.cfg.depthMax ∧ 2 < mid.cap ∧
    mid.mem.read 2 = some 30 ∧ mid.cap ≤ 4 ∧ 7 < mid.cfg.depthMax := by decide
theorem witness_UnwrittenSlotsShowFreshDraws : mid.lc = .active ∧ 3 < mid.cfg.depthMax ∧ mid.mem.read 3 = none ∧ mid.cap ≤ 4 ∧
    { mid with port := [⟨true, false, 0, 0⟩] }.port = [⟨true, false, 0, 0⟩] := by decide
theorem witness_LiveSlotsAreTheQueue : full.Inv ∧ full.lc = .active ∧ full.cnt = full.cap ∧ 3 < full.cap ∧ drained.Inv ∧
    drained.lc = .active ∧ drained.cnt = 0 := ⟨full_inv, by decide, by decide, by decide, drained_inv, by decide⟩
theorem witness_DumpTwiceAgrees : mid.lc = .active ∧ 2 < mid.cap ∧ mid.mem.read 2 = some 30 := by decide
theorem witness_SnapshotKeptByEverythingElse : (∃ t, exec .read last = .next t ∧ Instr.read ≠ .dump) ∧
    (∃ t, exec .dump uninit = .next t ∧ t.respStatus ≠ 0) ∧
    (∃ t, exec .dump mid = .next t ∧ t.respStatus = 0 ∧ mid.cap ≤ 4 ∧ 4 < mid.cfg.depthMax) ∧
    (∃ t, step { mid with port := [⟨false, false, 0, 0⟩] } = .next t) ∧
    ∃ t, step { mid with port := [⟨true, false, 0, 0⟩] } = .next t :=
  ⟨⟨_, rfl, by decide⟩, ⟨_, rfl, by decide⟩, ⟨_, rfl, by decide⟩, ⟨_, rfl⟩, _, rfl⟩
theorem witness_FailedCommandsChangeNothing : ∃ t, exec (.construct 9) uninit = .next t ∧ t.respStatus ≠ 0 :=
  ⟨_, rfl, by decide⟩
theorem witness_LifecycleCheck : (∀ n, Instr.write 7 ≠ .construct n) ∧ destroyed.lc ≠ .active ∧ destroyed.lc ≠ .uninit :=
  ⟨by simp, by decide, by decide⟩
theorem witness_ErrorCauses : (∃ t, exec (.construct 0) uninit = .next t ∧ t.respStatus = 1) ∧
    (∃ t, exec (.construct 9) uninit = .next t ∧ t.respStatus = 2) ∧ (∃ t, exec .dump uninit = .next t ∧ t.respStatus = 3) ∧
    (∃ t, exec (.write 7) full = .next t ∧ t.respStatus = 4) ∧ ∃ t, exec .read drained = .next t ∧ t.respStatus = 5 :=
  ⟨⟨_, rfl, by decide⟩, ⟨_, rfl, by decide⟩, ⟨_, rfl, by decide⟩, ⟨_, rfl, by decide⟩, _, rfl, by decide⟩
theorem witness_ResultWords : (∃ t, exec .read last = .next t ∧ t.respStatus = 0) ∧
    (∃ t, exec .read drained = .next t ∧ t.respStatus ≠ 0) ∧ (full.lc = .active ∧ ∃ t, exec .isfull full = .next t) ∧
    drained.lc = .active ∧ ∃ t, exec .isempty drained = .next t :=
  ⟨⟨_, rfl, by decide⟩, ⟨_, rfl, by decide⟩, ⟨by decide, _, rfl⟩, by decide, _, rfl⟩
theorem witness_QueriesAndFailuresAreIdempotent : (∃ t, exec .occupancy mid = .next t) ∧
    ∃ t, exec (.write 7) full = .next t ∧ t.respStatus ≠ 0 := ⟨⟨_, rfl⟩, _, rfl, by decide⟩
theorem witness_RegistersWrittenOnlyByTheirCommands : (∃ t, exec (.write 50) mid = .next t ∧ t.wr ≠ mid.wr ∧ t.cnt ≠ mid.cnt ∧
      t.mem.read 3 ≠ mid.mem.read 3) ∧ (∃ t, exec .read last = .next t ∧ t.rd ≠ last.rd) ∧
    (∃ t, exec .destroy mid = .next t ∧ t.lc ≠ mid.lc) ∧ ∃ t, exec .dump mid = .next t ∧ t.draws ≠ mid.draws :=
  ⟨⟨_, rfl, by decide⟩, ⟨_, rfl, by decide⟩, ⟨_, rfl, by decide⟩, _, rfl, by decide⟩
theorem witness_OccupancyLaw : uninit.Inv ∧ uninit.lc = .uninit ∧ 1 ≤ 2 ∧ 2 ≤ uninit.cfg.depthMax ∧
    .destroy ∉ [Instr.write 1, .write 2, .write 3, .read, .construct 1, .read, .read] := ⟨uninit_inv, by decide⟩
theorem witness_QueueIsAcceptedMinusReturned : uninit.Inv ∧ uninit.lc = .uninit ∧ 1 ≤ 8 ∧ 8 ≤ uninit.cfg.depthMax ∧
    .destroy ∉ [Instr.write 1, .read] ∧ (mid.Inv ∧ ∃ t, exec (.write 50) mid = .next t ∧ t.respStatus = 0) ∧
    last.Inv ∧ ∃ t, exec .read last = .next t ∧ t.respStatus = 0 :=
  ⟨uninit_inv, by decide, by decide, by decide, by decide, ⟨mid_inv, _, rfl, by decide⟩, last_inv, _, rfl, by decide⟩
theorem witness_ControllerRefinesBoundedQueue : uninit.Inv ∧ mid.Inv ∧ destroyed.Inv := ⟨uninit_inv, mid_inv, destroyed_inv⟩

end Sys2Proof.Tests
end

section
/-!
What one command does to the state, said once for all eight: the arms of `exec`, the ways a command can answer, and when
WRITE and READ succeed.
-/

namespace Sys2Proof.Machine

/-! ### The arms of `exec` -/

@[simp] theorem exec_construct (n : Nat) (s : State) : exec (.construct n) s = execConstruct n s := rfl
@[simp] theorem exec_destroy (s : State) : exec .destroy s = execDestroy s := rfl
@[simp] theorem exec_isfull (s : State) : exec .isfull s = execIsfull s := rfl
@[simp] theorem exec_isempty (s : State) : exec .isempty s = execIsempty s := rfl
@[simp] theorem exec_write (v : Word) (s : State) : exec (.write v) s = execWrite v s := rfl
@[simp] theorem exec_read (s : State) : exec .read s = execRead s := rfl
@[simp] theorem exec_occupancy (s : State) : exec .occupancy s = execOccupancy s := rfl
@[simp] theorem exec_dump (s : State) : exec .dump s = execDump s := rfl

/-! ### Status codes -/

theorem Status.code_eq_zero_iff (e : Status) : e.code = 0 ↔ e = .ok := by
  cases e <;> decide

theorem Status.code_driven (e : Status) : e.code ≠ 6 ∧ e.code ≠ 7 := by
  cases e <;> decide

/-! ### The ways a command can answer -/

/-- How the state `t` can arise when command `i` answers in state `s`: an error, which changes the response registers only
(rule R202), or the success of one command, with the guard that leads to it. Which error it is the inversion laws of the
single commands say. `answered_of_exec` ties it to `exec`. -/
inductive Answered : Instr → State → State → Prop
  | failed {i : Instr} {s : State} (e : Status) (error : e ≠ .ok) : Answered i s (s.loadResponse e.code 0)
  | construct {n : Nat} {s : State} (uninit : s.lc = .uninit) (pos : 1 ≤ n) (fits : n ≤ s.cfg.depthMax) :
      Answered (.construct n) s ((s.openBuffer n).loadResponse 0 0)
  | destroy {s : State} (active : s.lc = .active) : Answered .destroy s (s.closeBuffer.loadResponse 0 0)
  | query {i : Instr} {s : State} (data : Word) (isQuery : i = .isfull ∨ i = .isempty ∨ i = .occupancy)
      (active : s.lc = .active) : Answered i s (s.loadResponse 0 data)
  | write {v : Word} {s : State} (active : s.lc = .active) (notFull : s.cnt ≠ s.cap) :
      Answered (.write v) s ((s.claimSlot (s.mem.write s.wr v)).loadResponse 0 0)
  | read {v : Word} {s : State} (active : s.lc = .active) (notEmpty : s.cnt ≠ 0) (head : s.mem.read s.rd = some v) :
      Answered .read s (s.releaseSlot.loadResponse 0 v)
  | dump {s : State} (active : s.lc = .active) :
      Answered .dump s (s.loadSnapshot.loadResponse 0 (zext32 s.cap))

/-- The lifecycle error of rule R201, as the inversion laws of the commands state it. -/
theorem Answered.invalidState (i : Instr) (s : State) : Answered i s (s.loadResponse 3 0) :=
  .failed .invalidState (by decide)

theorem answered_of_exec {i : Instr} {s t : State} (h : exec i s = .next t) : Answered i s t := by
  cases i with
  | construct n =>
    obtain ⟨-, rfl⟩ | ⟨-, -, rfl⟩ | ⟨-, -, -, rfl⟩ | ⟨hl, hpos, hfits, rfl⟩ := execConstruct_next h
    · exact .invalidState _ s
    · exact .failed .invalidCapacity (by decide)
    · exact .failed .allocationFailure (by decide)
    · exact .construct hl hpos hfits
  | destroy =>
    obtain ⟨-, rfl⟩ | ⟨hl, rfl⟩ := execDestroy_next h
    · exact .invalidState _ s
    · exact .destroy hl
  | isfull =>
    obtain ⟨-, rfl⟩ | ⟨hl, rfl⟩ := execIsfull_next h
    · exact .invalidState _ s
    · exact .query _ (by simp) hl
  | isempty =>
    obtain ⟨-, rfl⟩ | ⟨hl, rfl⟩ := execIsempty_next h
    · exact .invalidState _ s
    · exact .query _ (by simp) hl
  | write v =>
    obtain ⟨-, rfl⟩ | ⟨-, -, rfl⟩ | ⟨hl, hc, -, -, rfl⟩ := execWrite_next h
    · exact .invalidState _ s
    · exact .failed .bufferFull (by decide)
    · exact .write hl hc
  | read =>
    obtain ⟨-, rfl⟩ | ⟨-, -, rfl⟩ | ⟨hl, hc, -, -, v, hv, rfl⟩ := execRead_next h
    · exact .invalidState _ s
    · exact .failed .bufferEmpty (by decide)
    · exact .read hl hc hv
  | occupancy =>
    obtain ⟨-, rfl⟩ | ⟨hl, rfl⟩ := execOccupancy_next h
    · exact .invalidState _ s
    · exact .query _ (by simp) hl
  | dump =>
    obtain ⟨-, rfl⟩ | ⟨hl, rfl⟩ := execDump_next h
    · exact .invalidState _ s
    · exact .dump hl

/-! ### The commands that change the queue, run forward -/

theorem execConstruct_success {n : Nat} {s : State} (hl : s.lc = .uninit) (hpos : 1 ≤ n) (hfits : n ≤ s.cfg.depthMax) :
    execConstruct n s = .next ((s.openBuffer n).loadResponse 0 0) := by
  have hne : ¬ n = 0 := by omega
  have hle : ¬ s.cfg.depthMax < n := by omega
  simp [execConstruct, hl, hne, hle, Status.code]

theorem execWrite_full {s : State} (v : Word) (hl : s.lc = .active) (hc : s.cnt = s.cap) :
    execWrite v s = .next (s.loadResponse 4 0) := by
  rw [execWrite, whenActive_active hl, if_pos ((isFull_iff_cnt s).mpr hc)]
  rfl

theorem execWrite_notFull {s : State} (v : Word) (hl : s.lc = .active) (hc : s.cnt ≠ s.cap) (hcap : s.wr < s.cap)
    (hdepth : s.wr < s.cfg.depthMax) :
    execWrite v s = .next ((s.claimSlot (s.mem.write s.wr v)).loadResponse 0 0) := by
  rw [execWrite, whenActive_active hl, if_neg (mt (isFull_iff_cnt s).mp hc), andThen_next]
  exact ⟨_, slotWrite_next.mpr ⟨hcap, hdepth, rfl⟩, rfl⟩

theorem execRead_empty {s : State} (hl : s.lc = .active) (hc : s.cnt = 0) :
    execRead s = .next (s.loadResponse 5 0) := by
  rw [execRead, whenActive_active hl, if_pos ((isEmpty_iff_cnt s).mpr hc)]
  rfl

theorem execRead_notEmpty {s : State} {v : Word} (hl : s.lc = .active) (hc : s.cnt ≠ 0) (hcap : s.rd < s.cap)
    (hdepth : s.rd < s.cfg.depthMax) (hv : s.mem.read s.rd = some v) :
    execRead s = .next (s.releaseSlot.loadResponse 0 v) := by
  rw [execRead, whenActive_active hl, if_neg (mt (isEmpty_iff_cnt s).mp hc), andThen_next]
  exact ⟨_, slotRead_next.mpr ⟨hcap, hdepth, hv⟩, rfl⟩

/-- A guarded command answers when its body does in ACTIVE. -/
theorem whenActive_answers {s : State} {body : Host.Outcome State Fault Refusal}
    (h : s.lc = .active → ∃ t, body = .next t) : ∃ t, whenActive s body = .next t := by
  by_cases hl : s.lc = .active
  · rw [whenActive_active hl]
    exact h hl
  · exact ⟨_, whenActive_inactive hl body⟩

theorem execConstruct_answers (n : Nat) (s : State) : ∃ t, execConstruct n s = .next t := by
  unfold execConstruct
  split
  · exact ⟨_, rfl⟩
  · split
    · exact ⟨_, rfl⟩
    · split <;> exact ⟨_, rfl⟩

end Sys2Proof.Machine
end

section
/-!
The invariant: every update of the state keeps it, so every command, every edge and every step does, and every reachable
state has it.
-/

namespace Sys2Proof.Machine

/-! ### Slot indices, circularly -/

/-- Two offsets below `cap` from one cursor name different slots. -/
theorem circular_offset_inj {r j k cap : Nat} (hj : j < cap) (hk : k < cap) (h : (r + j) % cap = (r + k) % cap) :
    j = k :=
  (Nat.ModEq.add_left_cancel' r h).eq_of_lt_of_lt hj hk

/-- Counting on from the next slot is counting on from this one, one step further. -/
theorem circular_offset_nextSlot (i k cap : Nat) : (nextSlot i cap + k) % cap = (i + (k + 1)) % cap := by
  rw [nextSlot, Nat.mod_add_mod]
  congr 1
  omega

/-- Moving on from an offset is the next offset. -/
theorem nextSlot_circular_offset (r k cap : Nat) : nextSlot ((r + k) % cap) cap = (r + (k + 1)) % cap := by
  rw [nextSlot, Nat.mod_add_mod, Nat.add_assoc]

theorem nextSlot_lt {cap : Nat} (i : Nat) (h : 1 ≤ cap) : nextSlot i cap < cap := Nat.mod_lt _ h

/-! ### What the invariant says of the cursors and the head -/

theorem State.Inv.wr_usable {s : State} (h : s.Inv) (hl : s.lc = .active) : s.wr < s.cap ∧ s.wr < s.cfg.depthMax :=
  have ⟨_, hwr, _⟩ := h.active_range hl
  ⟨hwr, hwr.trans_le h.cap_le⟩

theorem State.Inv.rd_usable {s : State} (h : s.Inv) (hl : s.lc = .active) : s.rd < s.cap ∧ s.rd < s.cfg.depthMax :=
  have ⟨_, _, hrd⟩ := h.active_range hl
  ⟨hrd, hrd.trans_le h.cap_le⟩

theorem State.Inv.head_written {s : State} (h : s.Inv) (hl : s.lc = .active) (hc : s.cnt ≠ 0) :
    ∃ v, s.mem.read s.rd = some v := by
  have hlive := h.live_written 0 (Nat.pos_of_ne_zero hc)
  rw [Nat.add_zero, Nat.mod_eq_of_lt (h.rd_usable hl).1] at hlive
  exact Option.isSome_iff_exists.mp hlive

/-- With room left, the slot that WRITE fills is none of the live ones. -/
theorem State.Inv.live_slot_ne_wr {s : State} (h : s.Inv) (hl : s.lc = .active) (hc : s.cnt ≠ s.cap) {k : Nat}
    (hk : k < s.cnt) : (s.rd + k) % s.cap ≠ s.wr := by
  rw [h.cursor_relation hl]
  have hlt : s.cnt < s.cap := Nat.lt_of_le_of_ne h.cnt_le hc
  exact fun heq => Nat.ne_of_lt hk (circular_offset_inj (hk.trans hlt) hlt heq)

/-- A WRITE keeps what a live slot holds. -/
theorem State.Inv.read_write_live {s : State} (h : s.Inv) (hl : s.lc = .active) (hc : s.cnt ≠ s.cap) (v : Word) {k : Nat}
    (hk : k < s.cnt) : (s.mem.write s.wr v).read ((s.rd + k) % s.cap) = s.mem.read ((s.rd + k) % s.cap) :=
  Memory.read_write_other _ v (h.live_slot_ne_wr hl hc hk)

/-! ### Every update keeps the invariant -/

theorem State.Inv.loadResponse {s : State} (h : s.Inv) {c : StatusCode} {data : Word} (driven : c ≠ 6 ∧ c ≠ 7)
    (error : c ≠ 0 → data = 0) : (s.loadResponse c data).Inv :=
  { h with status_driven := driven, error_data := error }

/-- A success may answer with any result word. -/
theorem State.Inv.loadResponse_ok {s : State} (h : s.Inv) (data : Word) : (s.loadResponse 0 data).Inv :=
  h.loadResponse (by decide) fun hc => absurd rfl hc

theorem State.Inv.openBuffer {s : State} (h : s.Inv) {n : Nat} (hpos : 1 ≤ n) (hfits : n ≤ s.cfg.depthMax) :
    (s.openBuffer n).Inv :=
  { h with
    cap_le := hfits
    cnt_le := Nat.zero_le n
    active_range := fun _ => ⟨hpos, hpos, hpos⟩
    inactive_zero := fun hl => absurd rfl hl
    cursor_relation := fun _ => (Nat.zero_mod n).symm
    mem_wf := Memory.wf_nil
    mem_below_cap := fun _ hc => absurd hc List.not_mem_nil
    live_written := fun _ hk => absurd hk (Nat.not_lt_zero _) }

theorem State.Inv.closeBuffer {s : State} (h : s.Inv) : s.closeBuffer.Inv :=
  { h with
    cap_le := Nat.zero_le _
    cnt_le := Nat.le_refl 0
    active_range := fun hl => nomatch hl
    inactive_zero := fun _ => ⟨rfl, rfl, rfl, rfl⟩
    cursor_relation := fun hl => nomatch hl
    mem_wf := Memory.wf_nil
    mem_below_cap := fun _ hc => absurd hc List.not_mem_nil
    live_written := fun _ hk => absurd hk (Nat.not_lt_zero _) }

theorem State.Inv.claimSlot {s : State} (h : s.Inv) (hl : s.lc = .active) (hc : s.cnt ≠ s.cap) (v : Word) :
    (s.claimSlot (s.mem.write s.wr v)).Inv :=
  have ⟨hcap, hwr, hrd⟩ := h.active_range hl
  { h with
    cnt_le := Nat.lt_of_le_of_ne h.cnt_le hc
    active_range := fun _ => ⟨hcap, nextSlot_lt s.wr hcap, hrd⟩
    inactive_zero := fun hne => absurd hl hne
    cursor_relation := fun _ => by
      rw [State.claimSlot_wr, h.cursor_relation hl]
      exact nextSlot_circular_offset s.rd s.cnt s.cap
    mem_wf := Memory.write_wf h.mem_wf s.wr v
    mem_below_cap := fun c hmem => by
      obtain rfl | hold := Memory.mem_write hmem
      · exact hwr
      · exact h.mem_below_cap c hold
    live_written := fun k hk => by
      show ((s.mem.write s.wr v).read ((s.rd + k) % s.cap)).isSome = true
      obtain hlt | rfl := Nat.lt_succ_iff_lt_or_eq.mp hk
      · rw [h.read_write_live hl hc v hlt]
        exact h.live_written k hlt
      · rw [← h.cursor_relation hl, Memory.read_write_same]
        rfl }

theorem State.Inv.releaseSlot {s : State} (h : s.Inv) (hl : s.lc = .active) (hc : s.cnt ≠ 0) : s.releaseSlot.Inv :=
  have ⟨hcap, hwr, _⟩ := h.active_range hl
  { h with
    cnt_le := (Nat.sub_le s.cnt 1).trans h.cnt_le
    active_range := fun _ => ⟨hcap, hwr, nextSlot_lt s.rd hcap⟩
    inactive_zero := fun hne => absurd hl hne
    cursor_relation := fun _ => by
      show s.wr = (nextSlot s.rd s.cap + (s.cnt - 1)) % s.cap
      rw [circular_offset_nextSlot, Nat.sub_add_cancel (Nat.pos_of_ne_zero hc)]
      exact h.cursor_relation hl
    live_written := fun k hk => by
      show (s.mem.read ((nextSlot s.rd s.cap + k) % s.cap)).isSome = true
      rw [circular_offset_nextSlot]
      exact h.live_written (k + 1) (Nat.add_lt_of_lt_sub hk) }

theorem State.Inv.loadSnapshot {s : State} (h : s.Inv) : s.loadSnapshot.Inv :=
  { h with
    dump_slot_length := (loadSnapshot_lengths s).1
    dump_live_length := (loadSnapshot_lengths s).2 }

theorem State.Inv.idleEdge {s : State} (h : s.Inv) : (idleEdge s).Inv := { h with }

/-- The invariant does not speak of what the host still drives. -/
theorem State.Inv.withPort {s : State} (h : s.Inv) (ps : List PortSample) : State.Inv { s with port := ps } := { h with }

/-- Reset establishes the invariant from any state of a legal build. -/
theorem resetEdge_inv {s : State} (legal : s.cfg.Legal) : (resetEdge s).Inv where
  cfg_legal := legal
  was_reset := rfl
  cap_le := Nat.zero_le _
  cnt_le := Nat.le_refl 0
  active_range := fun hl => nomatch hl
  inactive_zero := fun _ => ⟨rfl, rfl, rfl, rfl⟩
  cursor_relation := fun hl => nomatch hl
  mem_wf := Memory.wf_nil
  mem_below_cap := fun _ hc => absurd hc List.not_mem_nil
  live_written := fun _ hk => absurd hk (Nat.not_lt_zero _)
  status_driven := ⟨by simp, by simp⟩
  error_data := fun _ => rfl
  dump_slot_length := by simp
  dump_live_length := by simp

/-! ### Every command, edge and step keeps the invariant -/

theorem exec_keeps_inv {i : Instr} {s t : State} (hs : s.Inv) (h : exec i s = .next t) : t.Inv := by
  cases answered_of_exec h with
  | failed e _ => exact hs.loadResponse e.code_driven fun _ => rfl
  | construct _ hpos hfits => exact (hs.openBuffer hpos hfits).loadResponse_ok 0
  | destroy _ => exact hs.closeBuffer.loadResponse_ok 0
  | query data _ _ => exact hs.loadResponse_ok data
  | write hl hc => exact (hs.claimSlot hl hc _).loadResponse_ok 0
  | read hl hc _ => exact (hs.releaseSlot hl hc).loadResponse_ok _
  | dump _ => exact hs.loadSnapshot.loadResponse_ok _

theorem clockEdge_keeps_inv {p : PortSample} {s t : State} (hs : s.Inv) (h : clockEdge p s = .next t) : t.Inv := by
  obtain ⟨-, rfl⟩ | ⟨-, -, -, hexec⟩ | ⟨-, -, rfl⟩ := clockEdge_next h
  · exact resetEdge_inv hs.cfg_legal
  · exact exec_keeps_inv hs hexec
  · exact hs.idleEdge

theorem step_keeps_inv {s t : State} (hs : s.Inv) (h : step s = .next t) : t.Inv := by
  obtain ⟨p, rest, -, hedge⟩ := step_next h
  exact clockEdge_keeps_inv (hs.withPort rest) hedge

theorem Reachable.inv {s : State} (h : Reachable s) : s.Inv := by
  induction h with
  | reset s legal => exact resetEdge_inv legal
  | step s t _ taken ih => exact step_keeps_inv ih taken

/-! ### Under the invariant every command answers -/

theorem execWrite_accepts {s : State} (h : s.Inv) (hl : s.lc = .active) (hc : s.cnt ≠ s.cap) (v : Word) :
    execWrite v s = .next ((s.claimSlot (s.mem.write s.wr v)).loadResponse 0 0) :=
  execWrite_notFull v hl hc (h.wr_usable hl).1 (h.wr_usable hl).2

theorem execRead_returns {s : State} (h : s.Inv) (hl : s.lc = .active) (hc : s.cnt ≠ 0) :
    ∃ v, s.mem.read s.rd = some v ∧ execRead s = .next (s.releaseSlot.loadResponse 0 v) := by
  obtain ⟨v, hv⟩ := h.head_written hl hc
  exact ⟨v, hv, execRead_notEmpty hl hc (h.rd_usable hl).1 (h.rd_usable hl).2 hv⟩

theorem execWrite_answers {s : State} (h : s.Inv) (hl : s.lc = .active) (v : Word) : ∃ t, execWrite v s = .next t := by
  by_cases hc : s.cnt = s.cap
  · exact ⟨_, execWrite_full v hl hc⟩
  · exact ⟨_, execWrite_accepts h hl hc v⟩

theorem execRead_answers {s : State} (h : s.Inv) (hl : s.lc = .active) : ∃ t, execRead s = .next t := by
  by_cases hc : s.cnt = 0
  · exact ⟨_, execRead_empty hl hc⟩
  · obtain ⟨v, -, hv⟩ := execRead_returns h hl hc
    exact ⟨_, hv⟩

theorem exec_answers {s : State} (h : s.Inv) (i : Instr) : ∃ t, exec i s = .next t := by
  cases i with
  | construct n => exact execConstruct_answers n s
  | write v =>
    by_cases hl : s.lc = .active
    · exact execWrite_answers h hl v
    · exact ⟨_, whenActive_inactive hl _⟩
  | read =>
    by_cases hl : s.lc = .active
    · exact execRead_answers h hl
    · exact ⟨_, whenActive_inactive hl _⟩
  | destroy | isfull | isempty | occupancy | dump => exact whenActive_answers fun _ => ⟨_, rfl⟩

end Sys2Proof.Machine
end

section
/-!
The abstract queue: what each command does to it, and what a list of commands without a DESTROY does.
-/

namespace Sys2Proof.Machine

/-! ### The queue under every update -/

@[simp] theorem queue_loadResponse (s : State) (c : StatusCode) (data : Word) :
    queue (s.loadResponse c data) = queue s := rfl

@[simp] theorem queue_loadSnapshot (s : State) : queue s.loadSnapshot = queue s := rfl

theorem queue_eq_nil {s : State} (hc : s.cnt = 0) : queue s = [] := by simp [queue, hc]

@[simp] theorem queue_openBuffer (s : State) (n : Nat) : queue (s.openBuffer n) = [] := queue_eq_nil rfl

/-- Rule R33: every element of the queue is a value, read from its slot. -/
theorem State.Inv.map_some_queue {s : State} (h : s.Inv) :
    (queue s).map some = (List.range s.cnt).map fun k => s.mem.read ((s.rd + k) % s.cap) := by
  rw [queue, List.map_filterMap_some_eq_filter_map_isSome, List.filter_eq_self]
  intro a ha
  obtain ⟨k, hk, rfl⟩ := List.mem_map.mp ha
  exact h.live_written k (List.mem_range.mp hk)

/-- Rule R33: a WRITE appends to the tail. -/
theorem State.Inv.queue_claimSlot {s : State} (h : s.Inv) (hl : s.lc = .active) (hc : s.cnt ≠ s.cap) (v : Word) :
    queue (s.claimSlot (s.mem.write s.wr v)) = queue s ++ [v] := by
  have tail : (s.mem.write s.wr v).read ((s.rd + s.cnt) % s.cap) = some v := by
    rw [← h.cursor_relation hl, Memory.read_write_same]
  have live : (List.range s.cnt).filterMap (fun k => (s.mem.write s.wr v).read ((s.rd + k) % s.cap)) = queue s :=
    List.filterMap_congr fun k hk => h.read_write_live hl hc v (List.mem_range.mp hk)
  show (List.range (s.cnt + 1)).filterMap (fun k => (s.mem.write s.wr v).read ((s.rd + k) % s.cap)) = _
  simp only [List.range_succ, List.filterMap_append, live, List.filterMap_cons, tail, List.filterMap_nil]

/-- Rule R33: a READ takes the head. -/
theorem State.Inv.queue_releaseSlot {s : State} (h : s.Inv) (hl : s.lc = .active) (hc : s.cnt ≠ 0) {v : Word}
    (hv : s.mem.read s.rd = some v) : queue s = v :: queue s.releaseSlot := by
  have head : s.mem.read ((s.rd + 0) % s.cap) = some v := by
    rw [Nat.add_zero, Nat.mod_eq_of_lt (h.rd_usable hl).1, hv]
  have rest : (List.range (s.cnt - 1)).filterMap (fun k => s.mem.read ((s.rd + (k + 1)) % s.cap)) =
      queue s.releaseSlot :=
    List.filterMap_congr fun k _ => by
      rw [State.releaseSlot_mem, State.releaseSlot_rd, State.releaseSlot_cap, circular_offset_nextSlot]
  calc queue s
      = (List.range (s.cnt - 1 + 1)).filterMap fun k => s.mem.read ((s.rd + k) % s.cap) := by
        rw [Nat.sub_add_cancel (Nat.pos_of_ne_zero hc)]
        rfl
    _ = v :: queue s.releaseSlot := by
        simp only [List.range_succ_eq_map, List.filterMap_cons, head, List.filterMap_map, ← rest]
        rfl

/-! ### Accepted and returned elements -/

/-- What a list has accepted is what its first command has, then what the rest has. -/
theorem acceptedWrites_cons (i : Instr) (is : List Instr) (r : StatusCode × Word) (rs : List (StatusCode × Word)) :
    acceptedWrites (i :: is) (r :: rs) = acceptedWrites [i] [r] ++ acceptedWrites is rs :=
  List.filterMap_append (l := [(i, r)])

theorem returnedReads_cons (i : Instr) (is : List Instr) (r : StatusCode × Word) (rs : List (StatusCode × Word)) :
    returnedReads (i :: is) (r :: rs) = returnedReads [i] [r] ++ returnedReads is rs :=
  List.filterMap_append (l := [(i, r)])

/-- An error accepts nothing. -/
theorem acceptedWrites_error (i : Instr) {c : StatusCode} (hc : c ≠ 0) (data : Word) :
    acceptedWrites [i] [(c, data)] = [] := by
  cases i with
  | write v => simpa [acceptedWrites] using hc
  | construct | destroy | isfull | isempty | read | occupancy | dump => rfl

/-- An error returns nothing. -/
theorem returnedReads_error (i : Instr) {c : StatusCode} (hc : c ≠ 0) (data : Word) :
    returnedReads [i] [(c, data)] = [] := by
  cases i with
  | read => simpa [returnedReads] using hc
  | construct | destroy | isfull | isempty | write | occupancy | dump => rfl

/-- One command but DESTROY: the queue before it and what it has accepted are what it has returned and the queue after it. -/
theorem exec_queue {i : Instr} {s t : State} (hs : s.Inv) (h : exec i s = .next t) (hi : i ≠ .destroy) :
    queue s ++ acceptedWrites [i] [(t.respStatus, t.respData)] =
      returnedReads [i] [(t.respStatus, t.respData)] ++ queue t := by
  cases answered_of_exec h with
  | failed e herr =>
    have hcode : e.code ≠ 0 := mt e.code_eq_zero_iff.mp herr
    simp [acceptedWrites_error i hcode, returnedReads_error i hcode]
  | construct hl _ _ =>
    have hempty : queue s = [] := queue_eq_nil (hs.inactive_zero (by simp [hl])).2.1
    simp [acceptedWrites, returnedReads, hempty]
  | destroy _ => exact absurd rfl hi
  | query data isQuery _ => obtain rfl | rfl | rfl := isQuery <;> simp [acceptedWrites, returnedReads]
  | write hl hc => simp [acceptedWrites, returnedReads, hs.queue_claimSlot hl hc]
  | read hl hc hv => simp [acceptedWrites, returnedReads, hs.queue_releaseSlot hl hc hv]
  | dump _ => simp [acceptedWrites, returnedReads]

/-! ### Lists of commands -/

/-- The responses to a list begin with that of its first command. -/
theorem answers_cons {i : Instr} {is : List Instr} {s t u : State} {rs : List (StatusCode × Word)}
    (h : exec i s = .next t) (hrest : answers is t = some (rs, u)) :
    answers (i :: is) s = some ((t.respStatus, t.respData) :: rs, u) := by
  simp [answers, h, hrest]

/-- Rule R33 along a list of commands without a DESTROY, from any state of the invariant. -/
theorem answers_queue {is : List Instr} (hd : .destroy ∉ is) {s : State} (hs : s.Inv) :
    ∃ rs t, answers is s = some (rs, t) ∧ t.Inv ∧ queue s ++ acceptedWrites is rs = returnedReads is rs ++ queue t := by
  induction is generalizing s with
  | nil => exact ⟨[], s, rfl, hs, List.append_nil _⟩
  | cons i is ih =>
    obtain ⟨hi, hd⟩ := List.ne_and_not_mem_of_not_mem_cons hd
    obtain ⟨t, hexec⟩ := exec_answers hs i
    obtain ⟨rs, u, hrun, hu, hqueue⟩ := ih hd (exec_keeps_inv hs hexec)
    refine ⟨_, u, answers_cons hexec hrun, hu, ?_⟩
    rw [acceptedWrites_cons, returnedReads_cons, ← List.append_assoc, exec_queue hs hexec (Ne.symm hi),
      List.append_assoc, hqueue, List.append_assoc]

/-- A successful WRITE appends its element to the queue. -/
theorem queue_of_write_ok {v : Word} {s t : State} (hs : s.Inv) (h : exec (.write v) s = .next t)
    (hok : t.respStatus = 0) : queue t = queue s ++ [v] := by
  simpa [acceptedWrites, returnedReads, hok] using (exec_queue hs h nofun).symm

/-- A successful READ returns the head of the queue. -/
theorem queue_of_read_ok {s t : State} (hs : s.Inv) (h : exec .read s = .next t) (hok : t.respStatus = 0) :
    queue s = t.respData :: queue t := by
  simpa [acceptedWrites, returnedReads, hok] using exec_queue hs h nofun

/-- From a fresh buffer, the elements accepted are those returned followed by the queue. -/
theorem answers_construct_queue {n : Nat} {s : State} {is : List Instr} (hs : s.Inv) (hl : s.lc = .uninit) (hpos : 1 ≤ n)
    (hfits : n ≤ s.cfg.depthMax) (hd : .destroy ∉ is) :
    ∃ rs t, answers (.construct n :: is) s = some ((0, 0) :: rs, t) ∧ t.Inv ∧
      acceptedWrites is rs = returnedReads is rs ++ queue t := by
  obtain ⟨rs, t, hrun, ht, hqueue⟩ := answers_queue hd ((hs.openBuffer hpos hfits).loadResponse_ok 0)
  exact ⟨rs, t, answers_cons (i := .construct n) (execConstruct_success hl hpos hfits) hrun, ht, by simpa using hqueue⟩

/-! ### Settled here -/

/-- Settles O59, by induction on the list of commands: each command but DESTROY keeps the balance of the queue, what was
accepted and what was returned. -/
theorem queueIsAcceptedMinusReturned : Obligations.QueueIsAcceptedMinusReturned := by
  refine ⟨fun n s is hs hl hpos hfits hd => ?_, fun v s t => queue_of_write_ok, fun s t => queue_of_read_ok⟩
  obtain ⟨rs, t, hrun, ht, hqueue⟩ := answers_construct_queue hs hl hpos hfits hd
  exact ⟨rs, t, hrun, hqueue, ht.map_some_queue.symm⟩

end Sys2Proof.Machine
end

section
/-!
The bounds of the registers, the widths that hold them, and the cursor relation, in every reachable state.
-/

namespace Sys2Proof.Machine

/-! ### Widths -/

theorem le_two_pow_clog2 (n : Nat) : n ≤ 2 ^ clog2 n := by
  unfold clog2
  split
  · simpa
  · have hlt : n - 1 < 2 ^ ((n - 1).log2 + 1) := Nat.lt_log2_self
    omega

/-- Rule R7: `CNT_W` bits hold every count up to DEPTH_MAX. -/
theorem lt_two_pow_cntW (c : Config) {n : Nat} (h : n ≤ c.depthMax) : n < 2 ^ c.cntW :=
  (Nat.lt_succ_of_le h).trans_le (le_two_pow_clog2 (c.depthMax + 1))

/-- Rule R7: `PTR_W` bits hold every slot index below DEPTH_MAX. -/
theorem lt_two_pow_ptrW (c : Config) {i : Nat} (h : i < c.depthMax) : i < 2 ^ c.ptrW :=
  calc i < c.depthMax := h
    _ ≤ 2 ^ clog2 c.depthMax := le_two_pow_clog2 c.depthMax
    _ ≤ 2 ^ c.ptrW := Nat.pow_le_pow_right (by decide) (Nat.le_max_right 1 _)

/-- Both cursors name slots below DEPTH_MAX, in ACTIVE by rule R31 and outside it because they are 0. -/
theorem State.Inv.cursors_lt_depthMax {s : State} (h : s.Inv) : s.wr < s.cfg.depthMax ∧ s.rd < s.cfg.depthMax := by
  by_cases hl : s.lc = .active
  · exact ⟨(h.wr_usable hl).2, (h.rd_usable hl).2⟩
  · obtain ⟨-, -, hwr, hrd⟩ := h.inactive_zero hl
    rw [hwr, hrd]
    exact ⟨h.cfg_legal.1, h.cfg_legal.1⟩

/-- Rule R32: the cursors of an empty or a full buffer are equal. -/
theorem State.Inv.cursors_eq {s : State} (h : s.Inv) (hl : s.lc = .active) (hc : s.cnt = 0 ∨ s.cnt = s.cap) :
    s.wr = s.rd := by
  have hrd : s.rd % s.cap = s.rd := Nat.mod_eq_of_lt (h.rd_usable hl).1
  obtain hc | hc := hc
  · rw [h.cursor_relation hl, hc, Nat.add_zero, hrd]
  · rw [h.cursor_relation hl, hc, Nat.add_mod_right, hrd]

/-! ### Settled here -/

/-- Settles O23: every reachable state has the invariant, which holds the bounds, and DEPTH_MAX bounds the widths. -/
theorem reachableRegistersInBounds : Obligations.ReachableRegistersInBounds := by
  intro s hreach
  have h := hreach.inv
  have hcnt : s.cnt ≤ s.cfg.depthMax := h.cnt_le.trans h.cap_le
  obtain ⟨hwr, hrd⟩ := h.cursors_lt_depthMax
  exact ⟨h.cap_le, Nat.zero_le _, h.cnt_le, h.active_range, h.inactive_zero, lt_two_pow_cntW s.cfg h.cap_le,
    lt_two_pow_cntW s.cfg hcnt, lt_two_pow_ptrW s.cfg hwr, lt_two_pow_ptrW s.cfg hrd⟩

/-- Settles O24: the cursor relation is part of the invariant, which every reachable state has. -/
theorem reachableCursorRelation : Obligations.ReachableCursorRelation :=
  fun _ hreach hl => ⟨hreach.inv.cursor_relation hl, hreach.inv.cursors_eq hl⟩

end Sys2Proof.Machine
end

section
/-!
When READ and WRITE succeed, the lifecycle, the reset edge and the level outputs.
-/

namespace Sys2Proof.Machine

/-! ### When READ and WRITE succeed -/

/-- Rule R30: READ succeeds exactly when the buffer holds an element. -/
theorem execRead_ok_iff {s : State} (h : s.Inv) (hl : s.lc = .active) :
    (∃ t, exec .read s = .next t ∧ t.respStatus = 0) ↔ s.cnt ≠ 0 := by
  constructor
  · rintro ⟨t, hexec, hok⟩ hc
    rw [exec_read, execRead_empty hl hc] at hexec
    cases hexec
    simp at hok
  · intro hc
    obtain ⟨v, -, hexec⟩ := execRead_returns h hl hc
    exact ⟨_, hexec, rfl⟩

/-- Rule R30: a WRITE succeeds exactly when the buffer has room. -/
theorem execWrite_ok_iff {s : State} (h : s.Inv) (hl : s.lc = .active) (v : Word) :
    (∃ t, exec (.write v) s = .next t ∧ t.respStatus = 0) ↔ s.cnt ≠ s.cap := by
  constructor
  · rintro ⟨t, hexec, hok⟩ hc
    rw [exec_write, execWrite_full v hl hc] at hexec
    cases hexec
    simp at hok
  · exact fun hc => ⟨_, execWrite_accepts h hl hc v, rfl⟩

/-- Rule R30: a buffer has a slot, so it is not both full and empty. -/
theorem State.Inv.not_full_and_empty {s : State} (h : s.Inv) (hl : s.lc = .active) :
    ¬ (isFull s = true ∧ isEmpty s = true) := by
  rw [isFull_iff_cnt, isEmpty_iff_cnt]
  have hcap := (h.active_range hl).1
  omega

/-! ### Lifecycle -/

/-- Rule R22: what a command does to the lifecycle state. -/
theorem Answered.lc_cases {i : Instr} {s t : State} (h : Answered i s t) :
    t.lc = s.lc ∨ (∃ n, i = .construct n ∧ s.lc = .uninit ∧ t.lc = .active) ∨
      (i = .destroy ∧ s.lc = .active ∧ t.lc = .destroyed) := by
  cases h with
  | construct hl _ _ => exact .inr (.inl ⟨_, rfl, hl, rfl⟩)
  | destroy hl => exact .inr (.inr ⟨rfl, hl, rfl⟩)
  | failed | query | write | read | dump => exact .inl rfl

/-- Rule R22: nothing but reset leads out of DESTROYED. -/
theorem Answered.lc_destroyed {i : Instr} {s t : State} (h : Answered i s t) (hl : s.lc = .destroyed) :
    t.lc = .destroyed := by
  obtain heq | ⟨_, -, huninit, -⟩ | ⟨-, -, ht⟩ := h.lc_cases
  · exact heq.trans hl
  · simp [hl] at huninit
  · exact ht

theorem Lifecycle.ofBits_bits (l : Lifecycle) : Lifecycle.ofBits l.bits = .next l := by
  cases l <;> rfl

theorem Lifecycle.bits_ne_three (l : Lifecycle) : l.bits ≠ 0b11 := by
  cases l <;> decide

/-! ### The reset edge -/

/-- Rule R231: at an edge with `rst = 1` reset wins, whatever command is presented. -/
theorem step_of_rst {s : State} {p : PortSample} {rest : List PortSample} (hp : s.port = p :: rest) (hr : p.rst = true) :
    step s = .next (resetEdge { s with port := rest }) := by
  rw [step_cons hp, clockEdge, if_pos hr]

/-! ### Level outputs -/

theorem activeO_iff (s : State) : activeO s = true ↔ s.lc = .active := by simp [activeO]

theorem fullO_iff (s : State) : fullO s = true ↔ s.lc = .active ∧ s.cnt = s.cap := by
  rw [fullO, Bool.and_eq_true, activeO_iff, isFull_iff_cnt]

theorem emptyO_iff (s : State) : emptyO s = true ↔ s.lc = .active ∧ s.cnt = 0 := by
  rw [emptyO, Bool.and_eq_true, activeO_iff, isEmpty_iff_cnt]

theorem activeO_eq_false {s : State} (hl : s.lc ≠ .active) : activeO s = false := decide_eq_false hl

theorem fullO_eq_false {s : State} (hl : s.lc ≠ .active) : fullO s = false := by simp [fullO, activeO_eq_false hl]

theorem emptyO_eq_false {s : State} (hl : s.lc ≠ .active) : emptyO s = false := by simp [emptyO, activeO_eq_false hl]

theorem countO_eq_zero {s : State} (hc : s.cnt = 0) : countO s = 0 := by simp [countO, zext32, hc]

/-- `count_o` has the value of the occupancy, which is below 2^32. -/
theorem State.Inv.countO_toNat {s : State} (h : s.Inv) : (countO s).toNat = s.cnt := by
  have hle : s.cnt ≤ 2 ^ 32 - 1 := h.cnt_le.trans (h.cap_le.trans h.cfg_legal.2)
  rw [countO, zext32, BitVec.toNat_ofNat, Nat.mod_eq_of_lt (by omega)]

/-! ### Settled here -/

/-- Settles O27, from when READ and WRITE succeed and `1 <= cap`. -/
theorem fullAndEmptyExclude : Obligations.FullAndEmptyExclude := by
  intro s h hl
  refine ⟨⟨isEmpty_iff_cnt s, isFull_iff_cnt s⟩, ?_, ?_, h.not_full_and_empty hl⟩
  · rw [execRead_ok_iff h hl, not_not]
  · simp only [execWrite_ok_iff h hl, not_not, forall_const]

/-- Settles O31, by the ways a command can answer. -/
theorem lifecycleTransitions : Obligations.LifecycleTransitions :=
  ⟨fun _ _ _ h => ⟨(answered_of_exec h).lc_cases.resolve_left, (answered_of_exec h).lc_destroyed⟩,
    fun _ _ _ hp hr => ⟨_, step_of_rst hp hr, rfl⟩⟩

/-- Settles O8, by cases on the lifecycle state. -/
theorem lifecycleEncoding : Obligations.LifecycleEncoding :=
  ⟨rfl, rfl, rfl, fun l => ⟨l.bits_ne_three, l.ofBits_bits⟩, rfl⟩

/-- Settles O14: the edge is a reset edge, and so is the next one. -/
theorem resetEdgeGivesResetValues : Obligations.ResetEdgeGivesResetValues := by
  intro s p rest hp hr
  have hl : (resetEdge { s with port := rest }).lc ≠ .active := by simp
  exact ⟨_, step_of_rst hp hr, rfl, rfl, rfl, rfl, rfl, Memory.read_nil, rfl, rfl, rfl, rfl, freeWords_length _ _,
    fullO_eq_false hl, emptyO_eq_false hl, activeO_eq_false hl, countO_eq_zero rfl,
    fun q rest' hq hr' => ⟨_, step_of_rst hq hr', rfl, rfl, rfl, rfl, rfl, rfl, rfl, rfl, rfl, rfl⟩⟩

/-- Settles O26, from what each level output means; `count_o` does not wrap because the invariant bounds `cnt`. -/
theorem flagOutputsFollowRegisters : Obligations.FlagOutputsFollowRegisters := by
  intro s
  have hreset : State.reset.lc ≠ .active := by decide
  exact ⟨fun _ => ⟨isFull_iff_cnt s, isEmpty_iff_cnt s⟩, fullO_iff s, emptyO_iff s, activeO_iff s,
    fun hl => ⟨fullO_eq_false hl, emptyO_eq_false hl⟩,
    fun h => ⟨h.countO_toNat, fun hl => countO_eq_zero (h.inactive_zero hl).2.1⟩,
    rfl, rfl, rfl, rfl, fullO_eq_false hreset, emptyO_eq_false hreset, activeO_eq_false hreset, countO_eq_zero rfl⟩

end Sys2Proof.Machine
end

section
/-!
The opcode map and its fields, the reserved status codes, the ignored operand, and the result words.
-/

namespace Sys2Proof.Machine

/-! ### The fields of a command word -/

/-- Rule R71: a command word is its two fields. -/
theorem commandWord_fields (w : CommandWord) : commandWord (opField w) (argField w) = w :=
  BitVec.extractLsb'_append_extractLsb'_eq_extractLsb' rfl |>.trans BitVec.extractLsb'_eq_self

theorem commandWord_toNat (op : Opcode) (arg : Word) :
    (commandWord op arg).toNat = op.toNat * 2 ^ 32 + arg.toNat := by
  rw [commandWord, BitVec.toNat_append, ← Nat.shiftLeft_add_eq_or_of_lt arg.isLt, Nat.shiftLeft_eq]

/-- Rule R74: the mask `0x7_0000_0000` keeps `op` and clears `arg`. -/
theorem commandWord_and_mask (op : Opcode) (arg : Word) :
    commandWord op arg &&& 0x700000000 = commandWord op 0 :=
  calc commandWord op arg &&& 0x700000000
      = (op ++ arg) &&& (BitVec.allOnes 3 ++ 0#32) := rfl
    _ = (op &&& BitVec.allOnes 3) ++ (arg &&& 0#32) := BitVec.and_append
    _ = commandWord op 0 := by rw [BitVec.and_allOnes, BitVec.and_zero]; rfl

/-! ### The decoder on a word given by its fields -/

@[simp] theorem decode_commandWord (op : Opcode) (arg : Word) : decode (commandWord op arg) = decodeFields op arg := by
  rw [decode, opField_commandWord, argField_commandWord]

/-- Rule R74: the command decoded from an opcode has that opcode. -/
theorem opcodeOf_decodeFields (op : Opcode) (arg : Word) : opcodeOf (decodeFields op arg) = op := by
  obtain ⟨op⟩ := op
  fin_cases op <;> rfl

/-- Rule R73: six opcodes decode alike at every operand. -/
theorem decodeFields_arg_irrelevant {op : Opcode} (a b : Word) (h0 : op ≠ 0) (h4 : op ≠ 4) :
    decodeFields op a = decodeFields op b := by
  obtain ⟨op⟩ := op
  fin_cases op
  · exact absurd rfl h0
  · rfl
  · rfl
  · rfl
  · exact absurd rfl h4
  · rfl
  · rfl
  · rfl

/-- Rule R236: an edge that presents a command performs it, once a reset has been seen. -/
theorem clockEdge_command (op : Opcode) (arg : Word) (s : State) :
    clockEdge { rst := false, cmdValid := true, cmdOp := op, cmdArg := arg } s =
      if s.wasReset then exec (decodeFields op arg) s else .refused .neverReset := by
  simp [clockEdge, PortSample.command]

/-! ### Status codes and the result words of errors -/

/-- Rule R80: the host-side decoder reads every code the controller drives. -/
theorem Status.ofCode_code (e : Status) : Status.ofCode e.code = .next e := by
  cases e <;> rfl

/-- Rule R80: no command drives a reserved status code, from any state. -/
theorem Answered.status_driven {i : Instr} {s t : State} (h : Answered i s t) :
    t.respStatus ≠ 6 ∧ t.respStatus ≠ 7 := by
  cases h with
  | failed e _ => exact e.code_driven
  | construct | destroy | query | write | read | dump => exact Status.code_driven .ok

/-- Rule R78: the result word of an error is 0. -/
theorem Answered.error_data {i : Instr} {s t : State} (h : Answered i s t) (herr : t.respStatus ≠ 0) :
    t.respData = 0 := by
  cases h with
  | failed => rfl
  | construct | destroy | query | write | read | dump => exact absurd rfl herr

/-! ### The result words of successes (rule R78)

A command that needs ACTIVE and cannot fail there answers in one of two ways, as its inversion law says. Here `u` is the
state its success leaves and `data` its result word. -/

section GuardedAnswer

variable {s t u : State} {data : Word}
    (h : (s.lc ≠ .active ∧ t = s.loadResponse 3 0) ∨ (s.lc = .active ∧ t = u.loadResponse 0 data))
include h

theorem status_ok_of_active (hl : s.lc = .active) : t.respStatus = 0 := by
  obtain ⟨hne, -⟩ | ⟨-, rfl⟩ := h
  · exact absurd hl hne
  · rfl

theorem data_of_status_ok (hok : t.respStatus = 0) : t.respData = data := by
  obtain ⟨-, rfl⟩ | ⟨-, rfl⟩ := h
  · simp at hok
  · rfl

end GuardedAnswer

/-- Rule R78: a classification in ACTIVE is a result, not an error. -/
theorem classification_ok {i : Instr} {s t : State} (h : exec i s = .next t) (hl : s.lc = .active)
    (hi : i = .isfull ∨ i = .isempty) : t.respStatus = 0 := by
  obtain rfl | rfl := hi
  · exact status_ok_of_active (execIsfull_next h) hl
  · exact status_ok_of_active (execIsempty_next h) hl

theorem execConstruct_data {n : Nat} {s t : State} (h : execConstruct n s = .next t) : t.respData = 0 := by
  obtain ⟨-, rfl⟩ | ⟨-, -, rfl⟩ | ⟨-, -, -, rfl⟩ | ⟨-, -, -, rfl⟩ := execConstruct_next h <;> rfl

theorem execWrite_data {v : Word} {s t : State} (h : execWrite v s = .next t) : t.respData = 0 := by
  obtain ⟨-, rfl⟩ | ⟨-, -, rfl⟩ | ⟨-, -, -, -, rfl⟩ := execWrite_next h <;> rfl

/-- A successful READ answers with what slot `rd` holds. -/
theorem execRead_data {s t : State} (h : execRead s = .next t) (hok : t.respStatus = 0) :
    s.mem.read s.rd = some t.respData := by
  obtain ⟨-, rfl⟩ | ⟨-, -, rfl⟩ | ⟨-, -, -, -, v, hv, rfl⟩ := execRead_next h
  · simp at hok
  · simp at hok
  · exact hv

/-! ### Settled here -/

/-- Settles O9: every reachable state has the invariant, which excludes the two codes, and every way a command can
answer drives the code of a status. -/
theorem reservedStatusNeverDriven : Obligations.ReservedStatusNeverDriven :=
  ⟨fun _ hreach => hreach.inv.status_driven, fun _ _ _ h => (answered_of_exec h).status_driven, rfl, rfl,
    Status.ofCode_code⟩

/-- Settles O55, from the inversion law of each command. -/
theorem resultWords : Obligations.ResultWords := by
  intro i s t h
  refine ⟨classification_ok h, (answered_of_exec h).error_data, fun hok => ⟨?_, ?_, ?_, ?_, ?_, ?_, ?_, ?_⟩⟩
  · rintro n rfl
    exact execConstruct_data h
  · rintro rfl
    exact data_of_status_ok (execDestroy_next h) hok
  · rintro rfl
    exact data_of_status_ok (execIsfull_next h) hok
  · rintro rfl
    exact data_of_status_ok (execIsempty_next h) hok
  · rintro v rfl
    exact execWrite_data h
  · rintro rfl
    exact execRead_data h hok
  · rintro rfl
    exact data_of_status_ok (execOccupancy_next h) hok
  · rintro rfl
    exact data_of_status_ok (execDump_next h) hok

/-- Settles O1, by evaluating the encoder and the decoder on the words of the spec's tables. -/
theorem commandWordsOfTheSpec : Obligations.CommandWordsOfTheSpec :=
  ⟨by decide, by decide⟩

/-- Settles O2: the decoder sees the two fields, and the mask of a table row leaves `op * 2^32`. -/
theorem opcodeMap : Obligations.OpcodeMap := by
  refine ⟨fun arg => ?_, fun w => ?_⟩
  · simp only [decode_commandWord]
    exact ⟨rfl, rfl, rfl, rfl, rfl, rfl, rfl, rfl⟩
  · rw [← commandWord_fields w, commandWord_and_mask, commandWord_toNat, decode_commandWord, opcodeOf_decodeFields]
    exact Nat.add_zero _

/-- Settles O4: the edge performs the decoded command, which is the same at both operands. -/
theorem ignoredOperandNeverMatters : Obligations.IgnoredOperandNeverMatters := by
  intro op a b s h0 h4
  rw [clockEdge_command, clockEdge_command, decodeFields_arg_irrelevant a b h0 h4]

end Sys2Proof.Machine
end

section
/-!
CONSTRUCT and DESTROY, run forward: every error and every success, what leads into and out of ACTIVE, and the answers of
a destroyed controller to any list of commands.
-/

namespace Sys2Proof.Machine

/-! ### CONSTRUCT's errors, in the order of rule R104 -/

theorem execConstruct_notUninit (n : Nat) {s : State} (hl : s.lc ≠ .uninit) :
    execConstruct n s = .next (s.loadResponse 3 0) := if_pos hl

theorem execConstruct_zero {s : State} (hl : s.lc = .uninit) : execConstruct 0 s = .next (s.loadResponse 1 0) := by
  rw [execConstruct, if_neg (not_not.mpr hl), if_pos rfl]
  rfl

theorem execConstruct_tooDeep {n : Nat} {s : State} (hl : s.lc = .uninit) (hn : n ≠ 0) (hdeep : s.cfg.depthMax < n) :
    execConstruct n s = .next (s.loadResponse 2 0) := by
  rw [execConstruct, if_neg (not_not.mpr hl), if_neg hn, if_pos hdeep]
  rfl

/-- A CONSTRUCT that answers OK has opened a buffer of at least one slot. -/
theorem execConstruct_ok {n : Nat} {s t : State} (h : execConstruct n s = .next t) (hok : t.respStatus = 0) :
    1 ≤ n ∧ t = (s.openBuffer n).loadResponse 0 0 := by
  obtain ⟨-, rfl⟩ | ⟨-, -, rfl⟩ | ⟨-, -, -, rfl⟩ | ⟨-, hpos, -, rfl⟩ := execConstruct_next h
  · simp at hok
  · simp at hok
  · simp at hok
  · exact ⟨hpos, rfl⟩

/-- Rule R102: only a successful CONSTRUCT leads from UNINIT to ACTIVE. -/
theorem Answered.construct_of_uninit_active {i : Instr} {s t : State} (h : Answered i s t) (hs : s.lc = .uninit)
    (ht : t.lc = .active) : ∃ n, i = .construct n ∧ t.respStatus = 0 := by
  cases h with
  | failed => simp [hs] at ht
  | construct => exact ⟨_, rfl, rfl⟩
  | destroy hl | query _ _ hl | write hl | read hl | dump hl => simp [hs] at hl

/-- Rule R101: a buffer of one slot has both cursors at 0 and is empty or full. -/
theorem State.Inv.oneSlot {s : State} (h : s.Inv) (hl : s.lc = .active) (hcap : s.cap = 1) :
    s.wr = 0 ∧ s.rd = 0 ∧ (emptyO s = true ∨ fullO s = true) := by
  obtain ⟨-, hwr, hrd⟩ := h.active_range hl
  have hcnt := h.cnt_le
  rw [emptyO_iff, fullO_iff]
  refine ⟨by omega, by omega, ?_⟩
  obtain hzero | hone : s.cnt = 0 ∨ s.cnt = s.cap := by omega
  · exact .inl ⟨hl, hzero⟩
  · exact .inr ⟨hl, hone⟩

/-! ### The queries in ACTIVE -/

theorem execIsfull_active {s : State} (hl : s.lc = .active) :
    execIsfull s = .next (s.loadResponse 0 (if isFull s then 1 else 0)) := whenActive_active hl _

theorem execIsempty_active {s : State} (hl : s.lc = .active) :
    execIsempty s = .next (s.loadResponse 0 (if isEmpty s then 1 else 0)) := whenActive_active hl _

theorem execOccupancy_active {s : State} (hl : s.lc = .active) :
    execOccupancy s = .next (s.loadResponse 0 (zext32 s.cnt)) := whenActive_active hl _

/-! ### DESTROY, and the commands outside ACTIVE -/

theorem execDestroy_active {s : State} (hl : s.lc = .active) :
    execDestroy s = .next (s.closeBuffer.loadResponse 0 0) := whenActive_active hl _

/-- A DESTROY that answers OK has left DESTROYED. -/
theorem execDestroy_ok {s t : State} (h : execDestroy s = .next t) (hok : t.respStatus = 0) : t.lc = .destroyed := by
  obtain ⟨-, rfl⟩ | ⟨-, rfl⟩ := execDestroy_next h
  · simp at hok
  · rfl

/-- Rule R107: only DESTROY leads from ACTIVE to DESTROYED. -/
theorem Answered.destroy_of_active_destroyed {i : Instr} {s t : State} (h : Answered i s t) (hs : s.lc = .active)
    (ht : t.lc = .destroyed) : i = .destroy := by
  obtain heq | ⟨_, -, huninit, -⟩ | ⟨hi, -, -⟩ := h.lc_cases
  · simp [hs, ht] at heq
  · simp [hs] at huninit
  · exact hi

/-- Rule R201: outside ACTIVE every command but CONSTRUCT answers INVALID_STATE and changes only the response registers. -/
theorem exec_inactive {i : Instr} {s : State} (hi : ∀ n, i ≠ .construct n) (hl : s.lc ≠ .active) :
    exec i s = .next (s.loadResponse 3 0) := by
  cases i with
  | construct n => exact absurd rfl (hi n)
  | destroy | isfull | isempty | write | read | occupancy | dump => exact whenActive_inactive hl _

/-- Rule R108: in DESTROYED every command answers INVALID_STATE and changes only the response registers. -/
theorem exec_destroyed (i : Instr) {s : State} (hl : s.lc = .destroyed) : exec i s = .next (s.loadResponse 3 0) := by
  cases i with
  | construct n => exact execConstruct_notUninit n (by simp [hl])
  | destroy | isfull | isempty | write | read | occupancy | dump => exact exec_inactive nofun (by simp [hl])

/-- Rule R108 along a list of commands: the state left is the one before it, with the last error in its response
registers unless the list is empty. -/
theorem answers_destroyed (is : List Instr) {s : State} (hl : s.lc = .destroyed) :
    ∃ u, answers is s = some (List.replicate is.length (3, 0), u) ∧ (u = s ∨ u = s.loadResponse 3 0) := by
  induction is generalizing s with
  | nil => exact ⟨s, rfl, .inl rfl⟩
  | cons i is ih =>
    obtain ⟨u, hrun, hu⟩ := ih (s := s.loadResponse 3 0) hl
    have hlast : u = s.loadResponse 3 0 := hu.elim id id
    exact ⟨u, answers_cons (exec_destroyed i hl) hrun, .inr hlast⟩

/-! ### Settled here -/

/-- Settles O32: a successful DESTROY leaves DESTROYED, where a list of commands reaches the response registers only. -/
theorem destroyedAnswersInvalidState : Obligations.DestroyedAnswersInvalidState := by
  intro s t h hok is
  obtain ⟨u, hrun, hu⟩ := answers_destroyed is (execDestroy_ok h hok)
  refine ⟨u, hrun, ?_⟩
  obtain rfl | rfl := hu <;> rfl

/-- Settles O29: the state is that of a fresh buffer, where the three queries are run. -/
theorem stateAfterConstruct : Obligations.StateAfterConstruct := by
  refine ⟨fun n s t h hok => ?_, fun i s t h => (answered_of_exec h).construct_of_uninit_active⟩
  obtain ⟨hpos, rfl⟩ := execConstruct_ok h hok
  have hne : ¬ 0 = n := by omega
  refine ⟨rfl, rfl, rfl, rfl, rfl, Memory.read_nil, ?_, ?_, ?_⟩
  · exact ⟨_, execOccupancy_active rfl, rfl, rfl⟩
  · exact ⟨_, execIsempty_active rfl, rfl, rfl⟩
  · exact ⟨_, execIsfull_active rfl, rfl, by simp [isFull, hne]⟩

/-- Settles O28, from the forward law of each error and of the success. -/
theorem constructEffect : Obligations.ConstructEffect := by
  refine ⟨decode_commandWord 0, fun _ => State.Inv.oneSlot, fun n s => ⟨execConstruct_notUninit n, ?_, ?_, ?_⟩⟩
  · rintro hl rfl
    exact execConstruct_zero hl
  · exact fun hl hdeep hn => execConstruct_tooDeep hl hn hdeep
  · intro hl hpos hfits
    have hne : ¬ 0 = n := by omega
    exact ⟨_, execConstruct_success hl hpos hfits, rfl, Memory.read_nil, rfl, by simp [fullO, isFull, hne], rfl,
      countO_eq_zero rfl⟩

/-- Settles O30, from DESTROY's two answers and the lifecycle transitions of every command. -/
theorem destroyEffect : Obligations.DestroyEffect := by
  refine ⟨decode_commandWord 1, fun s => ⟨exec_inactive nofun, fun hl => ?_⟩, fun i s t h => ?_⟩
  · have hout : (s.closeBuffer.loadResponse 0 0).lc ≠ .active := by simp
    exact ⟨_, execDestroy_active hl, rfl, Memory.read_nil, fullO_eq_false hout, emptyO_eq_false hout,
      activeO_eq_false hout, countO_eq_zero rfl⟩
  · exact ⟨(answered_of_exec h).destroy_of_active_destroyed, (answered_of_exec h).lc_destroyed⟩

end Sys2Proof.Machine
end

section
/-!
The three queries: their answers in ACTIVE, how these agree with the level outputs and with the errors of WRITE and READ,
and the occupancy along a list of commands.
-/

namespace Sys2Proof.Machine

/-! ### Answers that are flags -/

/-- A flag as a result word is 1 exactly when it holds. -/
theorem flagWord_eq_one_iff (p : Prop) [Decidable p] : (if p then 1 else 0 : Word) = 1 ↔ p := by
  by_cases hp : p <;> simp [hp]

theorem flagWord_eq_zero_iff (p : Prop) [Decidable p] : (if p then 1 else 0 : Word) = 0 ↔ ¬ p := by
  by_cases hp : p <;> simp [hp]

/-- A level output, zero-extended, is its flag as a result word. -/
theorem setWidth_ofBool_eq_flagWord (b : Bool) : (BitVec.ofBool b).setWidth 32 = (if b then 1 else 0 : Word) := by
  cases b <;> rfl

theorem execIsfull_eq_one_iff {s t : State} (h : execIsfull s = .next t) (hl : s.lc = .active) :
    t.respData = 1 ↔ s.cnt = s.cap := by
  rw [data_of_status_ok (execIsfull_next h) (status_ok_of_active (execIsfull_next h) hl)]
  exact flagWord_eq_one_iff _

theorem execIsempty_data {s t : State} (h : execIsempty s = .next t) (hl : s.lc = .active) :
    t.respData = if s.cnt = 0 then 1 else 0 :=
  data_of_status_ok (execIsempty_next h) (status_ok_of_active (execIsempty_next h) hl)

theorem execIsempty_eq_one_iff {s t : State} (h : execIsempty s = .next t) (hl : s.lc = .active) :
    t.respData = 1 ↔ s.cnt = 0 := by
  rw [execIsempty_data h hl]
  exact flagWord_eq_one_iff _

theorem execIsempty_eq_zero_iff {s t : State} (h : execIsempty s = .next t) (hl : s.lc = .active) :
    t.respData = 0 ↔ s.cnt ≠ 0 := by
  rw [execIsempty_data h hl]
  exact flagWord_eq_zero_iff _

theorem fullO_active {s : State} (hl : s.lc = .active) : fullO s = isFull s := by simp [fullO, activeO, hl]

theorem emptyO_active {s : State} (hl : s.lc = .active) : emptyO s = isEmpty s := by simp [emptyO, activeO, hl]

/-! ### The errors of WRITE and READ in ACTIVE -/

theorem execWrite_bufferFull_iff {v : Word} {s t : State} (h : execWrite v s = .next t) (hl : s.lc = .active) :
    t.respStatus = 4 ↔ s.cnt = s.cap := by
  obtain ⟨hne, -⟩ | ⟨-, hc, rfl⟩ | ⟨-, hc, -, -, rfl⟩ := execWrite_next h
  · exact absurd hl hne
  · simp [hc]
  · simp [hc]

theorem execRead_bufferEmpty_iff {s t : State} (h : execRead s = .next t) (hl : s.lc = .active) :
    t.respStatus = 5 ↔ s.cnt = 0 := by
  obtain ⟨hne, -⟩ | ⟨-, hc, rfl⟩ | ⟨-, hc, -, -, v, -, rfl⟩ := execRead_next h
  · exact absurd hl hne
  · simp [hc]
  · simp [hc]

/-! ### The occupancy -/

/-- Rule R32: equal cursors are those of an empty or a full buffer. -/
theorem State.Inv.cnt_of_cursors_eq {s : State} (h : s.Inv) (hl : s.lc = .active) (heq : s.wr = s.rd) :
    s.cnt = 0 ∨ s.cnt = s.cap := by
  obtain hfull | hlt := h.cnt_le.eq_or_lt
  · exact .inr hfull
  · have hoffset : (s.rd + s.cnt) % s.cap = (s.rd + 0) % s.cap := by
      rw [← h.cursor_relation hl, heq, Nat.add_zero, Nat.mod_eq_of_lt (h.rd_usable hl).1]
    exact .inl (circular_offset_inj hlt (h.active_range hl).1 hoffset)

/-- Rule R33: the queue holds `cnt` elements. -/
theorem State.Inv.queue_length {s : State} (h : s.Inv) : (queue s).length = s.cnt := by
  simpa using congrArg List.length h.map_some_queue

/-! ### What a list of commands without a DESTROY keeps -/

/-- In ACTIVE every command but DESTROY keeps the buffer and its capacity. -/
theorem Answered.keeps_buffer {i : Instr} {s t : State} (h : Answered i s t) (hl : s.lc = .active) (hi : i ≠ .destroy) :
    t.lc = .active ∧ t.cap = s.cap := by
  cases h with
  | construct huninit => simp [hl] at huninit
  | destroy => exact absurd rfl hi
  | failed | query | write | read | dump => exact ⟨hl, rfl⟩

/-- The responses to a list, taken apart at its first command. -/
theorem exec_of_answers_cons {i : Instr} {is : List Instr} {s u : State} {rs : List (StatusCode × Word)}
    (h : answers (i :: is) s = some (rs, u)) :
    ∃ t rest, exec i s = .next t ∧ answers is t = some (rest, u) ∧ rs = (t.respStatus, t.respData) :: rest := by
  cases hexec : exec i s with
  | next t =>
    obtain ⟨⟨rest, u'⟩, hrest, heq⟩ := Option.map_eq_some_iff.mp (by simpa only [answers, hexec] using h)
    cases heq
    exact ⟨t, rest, rfl, hrest, rfl⟩
  | fault => simp [answers, hexec] at h
  | refused => simp [answers, hexec] at h

theorem answers_keeps_buffer {is : List Instr} (hd : .destroy ∉ is) {s t : State} {rs : List (StatusCode × Word)}
    (hl : s.lc = .active) (h : answers is s = some (rs, t)) : t.lc = .active ∧ t.cap = s.cap := by
  induction is generalizing s rs with
  | nil =>
    cases h
    exact ⟨hl, rfl⟩
  | cons i is ih =>
    obtain ⟨hi, hd⟩ := List.ne_and_not_mem_of_not_mem_cons hd
    obtain ⟨u, rest, hexec, hrest, -⟩ := exec_of_answers_cons h
    obtain ⟨hu, hcap⟩ := (answered_of_exec hexec).keeps_buffer hl (Ne.symm hi)
    obtain ⟨ht, hcap'⟩ := ih hd hu hrest
    exact ⟨ht, hcap'.trans hcap⟩

/-- A list of commands without a DESTROY after a successful CONSTRUCT leaves the buffer in place. -/
theorem answers_construct_keeps_buffer {n : Nat} {s t : State} {is : List Instr} {rs : List (StatusCode × Word)}
    (hl : s.lc = .uninit) (hpos : 1 ≤ n) (hfits : n ≤ s.cfg.depthMax) (hd : .destroy ∉ is)
    (h : answers (.construct n :: is) s = some (rs, t)) : t.lc = .active ∧ t.cap = n := by
  obtain ⟨u, rest, hexec, hrest, -⟩ := exec_of_answers_cons h
  rw [exec_construct, execConstruct_success hl hpos hfits] at hexec
  cases hexec
  exact answers_keeps_buffer hd rfl hrest

/-! ### Settled here -/

/-- Settles O58: the elements accepted are those returned and the queue, whose length is the counter that OCCUPANCY
answers. -/
theorem occupancyLaw : Obligations.OccupancyLaw := by
  intro n s is hs hl hpos hfits hd
  obtain ⟨rs, t, hrun, ht, hqueue⟩ := answers_construct_queue hs hl hpos hfits hd
  obtain ⟨hactive, hcap⟩ := answers_construct_keeps_buffer hl hpos hfits hd hrun
  have hlength : (acceptedWrites is rs).length = (returnedReads is rs).length + t.cnt := by
    rw [hqueue, List.length_append, ht.queue_length]
  have hbound : t.cnt ≤ n := hcap ▸ ht.cnt_le
  have hanswer : (countO t).toNat = t.cnt := ht.countO_toNat
  refine ⟨rs, t, _, hrun, by omega, by omega, execOccupancy_active hactive, rfl, ?_⟩
  show (countO t).toNat = _
  omega

/-- Settles O37: the error of each data command and the answer 1 of its query turn on the same test of `cnt`. -/
theorem dataCommandsTestTheQueries : Obligations.DataCommandsTestTheQueries := by
  refine fun s h hl => ⟨fun v => ?_, ?_⟩
  · obtain ⟨t, ht⟩ := execWrite_answers h hl v
    have hu := execIsfull_active hl
    exact ⟨t, _, ht, hu, (execWrite_bufferFull_iff ht hl).trans (execIsfull_eq_one_iff hu hl).symm⟩
  · obtain ⟨t, ht⟩ := execRead_answers h hl
    have hu := execIsempty_active hl
    exact ⟨t, _, ht, hu, (execRead_bufferEmpty_iff ht hl).trans (execIsempty_eq_one_iff hu hl).symm⟩

/-- Settles O33, from ISFULL's answer in ACTIVE and, for the one-slot buffer, from ISEMPTY's. -/
theorem isfullEffect : Obligations.IsfullEffect := by
  refine ⟨decode_commandWord 2, fun s => ⟨exec_inactive nofun, fun hl hc => ?_, fun hl hc => ?_, ?_,
    State.Inv.cnt_of_cursors_eq⟩⟩
  · rw [exec_isfull, execIsfull_active hl, if_pos ((isFull_iff_cnt s).mpr hc)]
    rfl
  · rw [exec_isfull, execIsfull_active hl, if_neg (mt (isFull_iff_cnt s).mp hc)]
    rfl
  · intro h hl hcap t u ht hu
    have hle := h.cnt_le
    rw [execIsfull_eq_one_iff ht hl, execIsempty_eq_zero_iff hu hl]
    omega

/-- Settles O34, from ISEMPTY's answer in ACTIVE; both queries answering 1 would make a buffer full and empty. -/
theorem isemptyEffect : Obligations.IsemptyEffect := by
  refine ⟨decode_commandWord 3, fun s => ⟨exec_inactive nofun, fun hl hc => ?_, fun hl hc => ?_, ?_⟩⟩
  · rw [exec_isempty, execIsempty_active hl, if_pos ((isEmpty_iff_cnt s).mpr hc)]
    rfl
  · rw [exec_isempty, execIsempty_active hl, if_neg (mt (isEmpty_iff_cnt s).mp hc)]
    rfl
  · intro h hl t u ht hu
    rw [execIsfull_eq_one_iff ht hl, execIsempty_eq_one_iff hu hl, ← isFull_iff_cnt, ← isEmpty_iff_cnt]
    exact h.not_full_and_empty hl

/-- Settles O35, from OCCUPANCY's answer in ACTIVE, which the invariant keeps below 2^32. -/
theorem occupancyEffect : Obligations.OccupancyEffect :=
  ⟨decode_commandWord 6, fun _ => ⟨exec_inactive nofun, execOccupancy_active, fun h _ => ⟨h.countO_toNat, h.cnt_le⟩⟩⟩

/-- Settles O36: in ACTIVE the level outputs are the flags and the counter that the queries answer. -/
theorem queriesAgreeWithOutputs : Obligations.QueriesAgreeWithOutputs := by
  intro s hl
  rw [fullO_active hl, emptyO_active hl, setWidth_ofBool_eq_flagWord, setWidth_ofBool_eq_flagWord]
  exact ⟨⟨_, execIsfull_active hl, rfl⟩, ⟨_, execIsempty_active hl, rfl⟩, ⟨_, execOccupancy_active hl, rfl⟩⟩

end Sys2Proof.Machine
end

section
/-!
The data commands WRITE and READ (42_data.md): their effect and frame, and what lists of them do to the queue of an ACTIVE
buffer.
-/

namespace Sys2Proof.Machine

/-! ### One command: flags, cursors and the fault on ⊥ -/

/-- Rules R140 and R145: the cursor on the last slot wraps to slot 0. -/
theorem nextSlot_last {i cap : Nat} (hi : i < cap) (hlast : i = cap - 1) : nextSlot i cap = 0 := by
  have hend : i + 1 = cap := by omega
  rw [nextSlot, hend, Nat.mod_self]

theorem countO_succ {s t : State} (hc : t.cnt = s.cnt + 1) : countO t = countO s + 1 := by
  rw [countO, countO, zext32, hc, BitVec.ofNat_add]
  rfl

/-- Rule R145: READ faults on ⊥ in slot `rd`. -/
theorem execRead_unwritten {s : State} (hl : s.lc = .active) (hc : s.cnt ≠ 0) (hcap : s.rd < s.cap)
    (hdepth : s.rd < s.cfg.depthMax) (hbot : s.mem.read s.rd = none) : execRead s = .fault .slotUnwritten := by
  have hslot : slotRead s.rd s = .fault .slotUnwritten := by
    rw [slotRead, if_neg (Nat.not_le.mpr hcap), if_neg (Nat.not_le.mpr hdepth), hbot]
  rw [execRead, whenActive_active hl, if_neg (mt (isEmpty_iff_cnt s).mp hc), hslot]
  rfl

/-! ### The answers to two lists, one after the other -/

theorem answers_append {is js : List Instr} {s t u : State} {rs qs : List (StatusCode × Word)}
    (h : answers is s = some (rs, t)) (hrest : answers js t = some (qs, u)) :
    answers (is ++ js) s = some (rs ++ qs, u) := by
  induction is generalizing s rs with
  | nil =>
    cases h
    exact hrest
  | cons i is ih =>
    obtain ⟨t', rest, hexec, htail, rfl⟩ := exec_of_answers_cons h
    exact answers_cons hexec (ih htail)

/-! ### A buffer and its queue -/

/-- An ACTIVE buffer of `cap` slots whose queue is `q`, with its oldest element in slot `rd`. -/
structure BufferHolds (cap rd : Nat) (q : List Word) (s : State) : Prop where
  inv : s.Inv
  active : s.lc = .active
  cap_eq : s.cap = cap
  rd_eq : s.rd = rd
  queue_eq : queue s = q

/-- Every ACTIVE state of the invariant is such a buffer. -/
theorem State.Inv.bufferHolds {s : State} (h : s.Inv) (hl : s.lc = .active) : BufferHolds s.cap s.rd (queue s) s :=
  ⟨h, hl, rfl, rfl, rfl⟩

theorem State.Inv.bufferHolds_empty {s : State} (h : s.Inv) (hl : s.lc = .active) (hc : s.cnt = 0) :
    BufferHolds s.cap s.rd [] s :=
  ⟨h, hl, rfl, rfl, queue_eq_nil hc⟩

section BufferHolds

variable {cap rd : Nat} {q : List Word} {s : State}

theorem BufferHolds.cnt_eq (h : BufferHolds cap rd q s) : s.cnt = q.length := by
  rw [← h.inv.queue_length, h.queue_eq]

/-- Rule R32: the queue ends where `wr` stands. -/
theorem BufferHolds.wr_eq (h : BufferHolds cap rd q s) : s.wr = (rd + q.length) % cap := by
  rw [h.inv.cursor_relation h.active, h.cnt_eq, h.cap_eq, h.rd_eq]

/-- Rules R140 and R141: with room left, a WRITE answers OK 0 and its element joins the tail. -/
theorem BufferHolds.answers_write (h : BufferHolds cap rd q s) (hroom : q.length < cap) (v : Word) :
    ∃ t, answers [.write v] s = some ([(0, 0)], t) ∧ BufferHolds cap rd (q ++ [v]) t := by
  have hlength := h.cnt_eq
  obtain ⟨hinv, hl, rfl, rfl, rfl⟩ := h
  have hc : s.cnt ≠ s.cap := by omega
  exact ⟨_, answers_cons (i := .write v) (execWrite_accepts hinv hl hc v) rfl,
    (hinv.claimSlot hl hc v).loadResponse_ok 0, hl, rfl, rfl, hinv.queue_claimSlot hl hc v⟩

/-- Rules R145 and R146: a READ answers OK with the head of the queue, which leaves the buffer. -/
theorem BufferHolds.answers_read {v : Word} (h : BufferHolds cap rd (v :: q) s) :
    ∃ t, answers [.read] s = some ([(0, v)], t) ∧ BufferHolds cap (nextSlot rd cap) q t := by
  have hc : s.cnt ≠ 0 := by simp [h.cnt_eq]
  obtain ⟨w, hw, hexec⟩ := execRead_returns h.inv h.active hc
  obtain ⟨rfl, hrest⟩ : w = v ∧ queue s.releaseSlot = q := by
    simpa [h.inv.queue_releaseSlot h.active hc hw] using h.queue_eq
  obtain ⟨hinv, hl, rfl, rfl, -⟩ := h
  exact ⟨_, answers_cons (i := .read) hexec rfl, (hinv.releaseSlot hl hc).loadResponse_ok w, hl, rfl, rfl, hrest⟩

/-- Every other command but DESTROY answers and leaves the buffer as it is. -/
theorem BufferHolds.answers_other {i : Instr} (h : BufferHolds cap rd q s) (hd : i ≠ .destroy) (hw : ∀ v, i ≠ .write v)
    (hr : i ≠ .read) : ∃ rs t, answers [i] s = some (rs, t) ∧ BufferHolds cap rd q t := by
  obtain ⟨t, hexec⟩ := exec_answers h.inv i
  have ht : t.Inv := exec_keeps_inv h.inv hexec
  obtain ⟨-, hl, hcap, hrd, hqueue⟩ := h
  refine ⟨_, t, answers_cons hexec rfl, ?_⟩
  cases answered_of_exec hexec with
  | construct huninit => simp [hl] at huninit
  | destroy => exact absurd rfl hd
  | write => exact absurd rfl (hw _)
  | read => exact absurd rfl hr
  | failed | query | dump => exact ⟨ht, hl, hcap, hrd, hqueue⟩

/-! ### Lists of WRITEs, of READs, and of commands that write nothing -/

theorem BufferHolds.answers_writes (h : BufferHolds cap rd q s) {vs : List Word} (hroom : q.length + vs.length ≤ cap) :
    ∃ t, answers (vs.map .write) s = some (List.replicate vs.length (0, 0), t) ∧ BufferHolds cap rd (q ++ vs) t := by
  induction vs generalizing q s with
  | nil => exact ⟨s, rfl, by simpa using h⟩
  | cons v vs ih =>
    rw [List.length_cons] at hroom
    obtain ⟨t, hwrite, ht⟩ := h.answers_write (by omega) v
    obtain ⟨u, hrest, hu⟩ := ih ht (by simp; omega)
    exact ⟨u, answers_append hwrite hrest, by simpa using hu⟩

theorem BufferHolds.answers_reads {vs : List Word} (h : BufferHolds cap rd (vs ++ q) s) :
    ∃ t, answers (List.replicate vs.length .read) s = some (vs.map fun v => (0, v), t) ∧
      BufferHolds cap ((rd + vs.length) % cap) q t := by
  induction vs generalizing rd s with
  | nil =>
    have hrd : (rd + 0) % cap = rd := Nat.mod_eq_of_lt (h.rd_eq ▸ h.cap_eq ▸ (h.inv.rd_usable h.active).1)
    exact ⟨s, rfl, by rwa [List.length_nil, hrd]⟩
  | cons v vs ih =>
    obtain ⟨t, hread, ht⟩ := h.answers_read
    obtain ⟨u, hrest, hu⟩ := ih ht
    rw [circular_offset_nextSlot] at hu
    exact ⟨u, answers_append hread hrest, hu⟩

/-- Commands without WRITE and DESTROY take from the queue what their READs take, `p` here. -/
theorem BufferHolds.answers_without_write {p : List Word} {is : List Instr} (h : BufferHolds cap rd (p ++ q) s)
    (hkeep : ∀ i ∈ is, i ≠ .destroy ∧ ∀ w, i ≠ .write w) (hreads : is.count .read = p.length) :
    ∃ rs t r, answers is s = some (rs, t) ∧ BufferHolds cap r q t := by
  induction is generalizing p rd s with
  | nil =>
    obtain rfl : p = [] := List.length_eq_zero_iff.mp hreads.symm
    exact ⟨[], s, rd, rfl, h⟩
  | cons i is ih =>
    obtain ⟨⟨hd, hw⟩, hkeepRest⟩ := List.forall_mem_cons.mp hkeep
    by_cases hi : i = .read
    · subst hi
      rw [List.count_cons_self] at hreads
      obtain ⟨v, p, rfl⟩ := List.exists_cons_of_length_eq_add_one hreads.symm
      obtain ⟨t, hread, ht⟩ := h.answers_read
      obtain ⟨rs, u, r, hrest, hu⟩ := ih ht hkeepRest (Nat.succ.inj hreads)
      exact ⟨_, u, r, answers_append hread hrest, hu⟩
    · rw [List.count_cons_of_ne hi] at hreads
      obtain ⟨_, t, hother, ht⟩ := h.answers_other hd hw hi
      obtain ⟨rs, u, r, hrest, hu⟩ := ih ht hkeepRest hreads
      exact ⟨_, u, r, answers_append hother hrest, hu⟩

end BufferHolds

/-! ### Settled here -/

/-- Settles O44: the WRITE puts its element behind the `cnt` elements of the queue, the READs in between take exactly
these, and the last READ finds it at the head. -/
theorem writeComesBack : Obligations.WriteComesBack := by
  intro v s h hl hc between hkeep hreads
  obtain ⟨t, hwrite, ht⟩ := (h.bufferHolds hl).answers_write (by rwa [h.queue_length]) v
  obtain ⟨rs, u, r, hbetween, hu⟩ := ht.answers_without_write hkeep (by rw [hreads, h.queue_length])
  obtain ⟨w, hread, -⟩ := hu.answers_read
  exact ⟨_, w, answers_append (answers_append hwrite hbetween) hread, rfl, List.getLast?_concat⟩

/-- Settles O45: the WRITEs make `vs` the queue, and as many READs take it from its head. -/
theorem fifoOrder : Obligations.FifoOrder := by
  intro vs s h hl hc hfits
  obtain ⟨t, hwrites, ht⟩ := (h.bufferHolds_empty hl hc).answers_writes (vs := vs) (by simpa)
  obtain ⟨u, hreads, -⟩ := BufferHolds.answers_reads (q := []) (by simpa using ht)
  exact ⟨u, answers_append hwrites hreads⟩

/-- Settles O46: the queue is `vs`, then `vs` without its first k elements, then that and `ws`, again `cap` elements
long; READs alone move `rd`, and `wr` stands at the queue's end. -/
theorem wraparoundFillsAgain : Obligations.WraparoundFillsAgain := by
  intro vs ws s h hl hc hfull hless
  have hcursors : s.wr = s.rd := h.cursors_eq hl (.inl hc)
  have htaken : (vs.take ws.length).length = ws.length := by simp; omega
  obtain ⟨t, hfill, ht⟩ := (h.bufferHolds_empty hl hc).answers_writes (vs := vs) (by simp [hfull])
  obtain ⟨u, hread, hu⟩ :=
    BufferHolds.answers_reads (vs := vs.take ws.length) (q := vs.drop ws.length) (by simpa using ht)
  rw [htaken] at hread hu
  obtain ⟨w, hrefill, hw⟩ := hu.answers_writes (vs := ws) (by simp; omega)
  have hlength : (vs.drop ws.length ++ ws).length = s.cap := by simp; omega
  have hcnt : w.cnt = s.cap := hw.cnt_eq.trans hlength
  have hwr : w.wr = (s.rd + ws.length) % s.cap := by
    rw [hw.wr_eq, hlength, Nat.add_mod_right, Nat.mod_mod]
  refine ⟨_, w, answers_append (answers_append hfill hread) hrefill, ?_, hcnt, hw.cap_eq,
    (fullO_iff w).mpr ⟨hw.active, hcnt.trans hw.cap_eq.symm⟩, ?_, hw.rd_eq, fun hzero => ?_⟩
  · simp only [List.mem_append, List.mem_replicate, List.mem_map]
    rintro r ((⟨-, rfl⟩ | ⟨_, -, rfl⟩) | ⟨-, rfl⟩) <;> rfl
  · rw [hwr, hcursors, Nat.add_right_comm, Nat.add_mod_right]
  · rw [hwr, hw.rd_eq, hzero, Nat.zero_add]
    exact ⟨rfl, rfl⟩

/-- Settles O40: under the invariant the WRITE claims slot `wr`, which is none of the live slots. -/
theorem writeFrame : Obligations.WriteFrame :=
  fun v _ h hl hc => ⟨_, execWrite_accepts h hl hc v, rfl, Memory.read_write_same _ _ v, rfl, rfl, rfl, rfl, rfl,
    fun _ hi => Memory.read_write_other _ v hi, rfl, rfl, h.queue_claimSlot hl hc v⟩

/-- Settles O42: under the invariant slot `rd` holds the head of the queue, and the READ releases it. -/
theorem readFrame : Obligations.ReadFrame := by
  intro s h hl hc
  obtain ⟨v, hv, hexec⟩ := execRead_returns h hl hc
  exact ⟨_, v, hexec, rfl, rfl, hv, rfl, rfl, rfl, rfl, rfl, fun _ => rfl, rfl, rfl, h.queue_releaseSlot hl hc hv⟩

/-- Settles O43: a command that answers one of the two codes has failed, and a failure changes the response registers
only. -/
theorem boundaryFailuresChangeNothing : Obligations.BoundaryFailuresChangeNothing := by
  intro i s t h hcode
  cases answered_of_exec h with
  | failed => exact ⟨rfl, rfl, rfl, rfl, rfl, fun _ => rfl, rfl, rfl, rfl⟩
  | construct | destroy | query | write | read | dump => simp at hcode

/-- Settles O38, from the forward law of each error and of the success. -/
theorem writeEffect : Obligations.WriteEffect := by
  refine ⟨decode_commandWord 4, fun v s => ⟨exec_inactive nofun, execWrite_full v, fun hl hc hcap hdepth => ?_⟩⟩
  refine ⟨_, execWrite_notFull v hl hc hcap hdepth, rfl, Memory.read_write_same _ _ v,
    fun i hi => Memory.read_write_other _ v hi, ?_, ?_, countO_succ rfl, nextSlot_last hcap, fun h => ?_⟩
  · simp [emptyO, isEmpty]
  · simp [fullO_iff, hl]
  · exact Nat.lt_of_le_of_ne h.cnt_le hc

/-- Settles O41, from the forward law of each error, of the success and of the fault. -/
theorem readEffect : Obligations.ReadEffect := by
  refine ⟨decode_commandWord 5, fun s => ⟨exec_inactive nofun, execRead_empty, fun v hl hc hcap hdepth hv => ?_,
    execRead_unwritten⟩⟩
  refine ⟨_, execRead_notEmpty hl hc hcap hdepth hv, rfl, hv, fun h => ?_, ?_,
    countO_succ (Nat.succ_pred_eq_of_ne_zero hc).symm, nextSlot_last hcap⟩
  · have hle := h.cnt_le
    have hne : s.cnt - 1 ≠ s.cap := by omega
    simp [fullO, isFull, hne]
  · simp [emptyO_iff, hl]

end Sys2Proof.Machine
end

section
/-!
The diagnostic command DUMP (43_diagnostic.md): which slots are live, what the snapshot it loads shows, and what keeps the
snapshot.
-/

namespace Sys2Proof.Machine

/-! ### The live slots (rule R162) -/

/-- In the form of rule R162 the live test is a comparison of integers. -/
theorem slotLive_iff_emod (s : State) (i : Nat) :
    slotLive s i = true ↔ ((i : Int) - (s.rd : Int)) % (s.cap : Int) < (s.cnt : Int) := decide_eq_true_iff

/-- Counting on from `r` by the distance from `r` to slot `i` arrives at slot `i`. -/
theorem circular_offset_distance {r i cap : Nat} (hr : r < cap) (hi : i < cap) :
    (r + (i + (cap - r)) % cap) % cap = i := by
  have hsum : r + (i + (cap - r)) = i + cap := by omega
  rw [Nat.add_mod_mod, hsum, Nat.add_mod_right, Nat.mod_eq_of_lt hi]

/-- The distance from `r` to the slot at offset `k` is `k`. -/
theorem circular_distance_offset {r k cap : Nat} (hr : r < cap) (hk : k < cap) :
    ((r + k) % cap + (cap - r)) % cap = k := by
  have hsum : r + k + (cap - r) = k + cap := by omega
  rw [Nat.mod_add_mod, hsum, Nat.add_mod_right, Nat.mod_eq_of_lt hk]

/-- Rule R162: a slot is live when it is one of the `cnt` slots that follow `rd` circularly. -/
theorem State.Inv.slotLive_iff_offset {s : State} (h : s.Inv) (hl : s.lc = .active) {i : Nat} (hi : i < s.cap) :
    slotLive s i = true ↔ ∃ k, k < s.cnt ∧ i = (s.rd + k) % s.cap := by
  have hrd : s.rd < s.cap := (h.rd_usable hl).1
  rw [slotLive_iff hrd]
  constructor
  · exact fun hlive => ⟨_, hlive, (circular_offset_distance hrd hi).symm⟩
  · rintro ⟨k, hk, rfl⟩
    rwa [circular_distance_offset hrd (hk.trans_le h.cnt_le)]

/-- Rule R162: listed by index, the live slots are a rearrangement of the `cnt` slots listed from `rd` on. -/
theorem State.Inv.live_slots_perm {s : State} (h : s.Inv) (hl : s.lc = .active) :
    ((List.range s.cap).filter (slotLive s)).Perm ((List.range s.cnt).map fun k => (s.rd + k) % s.cap) := by
  have distinct : ((List.range s.cnt).map fun k => (s.rd + k) % s.cap).Nodup :=
    List.nodup_range.map_on fun j hj k hk =>
      circular_offset_inj ((List.mem_range.mp hj).trans_le h.cnt_le) ((List.mem_range.mp hk).trans_le h.cnt_le)
  refine (List.perm_ext_iff_of_nodup (List.nodup_range.filter _) distinct).mpr fun i => ?_
  simp only [List.mem_filter, List.mem_map, List.mem_range]
  constructor
  · rintro ⟨hi, hlive⟩
    obtain ⟨k, hk, rfl⟩ := (h.slotLive_iff_offset hl hi).mp hlive
    exact ⟨k, hk, rfl⟩
  · rintro ⟨k, hk, rfl⟩
    have hi : (s.rd + k) % s.cap < s.cap := Nat.mod_lt _ (h.active_range hl).1
    exact ⟨hi, (h.slotLive_iff_offset hl hi).mpr ⟨k, hk, rfl⟩⟩

/-- Rule R162: as many slots are live as there are elements. -/
theorem State.Inv.live_slots_length {s : State} (h : s.Inv) (hl : s.lc = .active) :
    ((List.range s.cap).filter (slotLive s)).length = s.cnt := by
  simpa using (h.live_slots_perm hl).length_eq

theorem State.Inv.slotLive_empty {s : State} (h : s.Inv) (hl : s.lc = .active) (hc : s.cnt = 0) (i : Nat) :
    slotLive s i = false := by
  rw [← Bool.not_eq_true, slotLive_iff (h.rd_usable hl).1, hc]
  exact Nat.not_lt_zero _

theorem State.Inv.slotLive_full {s : State} (h : s.Inv) (hl : s.lc = .active) (hc : s.cnt = s.cap) (i : Nat) :
    slotLive s i = true := by
  rw [slotLive_iff (h.rd_usable hl).1, hc]
  exact Nat.mod_lt _ (h.active_range hl).1

/-! ### The entries of a snapshot -/

theorem snapshotLive_below_cap {s : State} {i : Nat} (hi : i < s.cap) : snapshotLive s i = slotLive s i := by
  simp [snapshotLive, hi]

theorem snapshotLive_from_cap {s : State} {i : Nat} (hi : s.cap ≤ i) : snapshotLive s i = false := by
  simp [snapshotLive, Nat.not_lt.mpr hi]

theorem loadSnapshot_dumpSlot_getElem? (s : State) (i : Nat) :
    s.loadSnapshot.dumpSlot[i]? = if i < s.cfg.depthMax then some (snapshotWord s i) else none := by
  split <;> simp [*]

theorem loadSnapshot_dumpLive_getElem? {s : State} {i : Nat} (hi : i < s.cfg.depthMax) :
    s.loadSnapshot.dumpLive[i]? = some (snapshotLive s i) := by
  simp [hi]

/-- Rule R161: a written slot below `cap` shows the value of the last WRITE to it. -/
theorem loadSnapshot_shows_written {s : State} {i : Nat} {v : Word} (hdepth : i < s.cfg.depthMax) (hcap : i < s.cap)
    (hv : s.mem.read i = some v) : s.loadSnapshot.dumpSlot[i]? = some v := by
  rw [loadSnapshot_dumpSlot_getElem?, if_pos hdepth, snapshotWord_written hcap hv]

/-- Rule R165: a slot from `cap` up has live bit 0. -/
theorem loadSnapshot_not_live_from_cap {s : State} {i : Nat} (hdepth : i < s.cfg.depthMax) (hcap : s.cap ≤ i) :
    s.loadSnapshot.dumpLive[i]? = some false := by
  rw [loadSnapshot_dumpLive_getElem? hdepth, snapshotLive_from_cap hcap]

/-! ### DUMP and the snapshot -/

theorem execDump_active {s : State} (hl : s.lc = .active) :
    execDump s = .next (s.loadSnapshot.loadResponse 0 (zext32 s.cap)) := whenActive_active hl _

/-- A DUMP that answers OK has loaded the snapshot. -/
theorem execDump_ok {s t : State} (h : execDump s = .next t) (hok : t.respStatus = 0) :
    t = s.loadSnapshot.loadResponse 0 (zext32 s.cap) := by
  obtain ⟨-, rfl⟩ | ⟨-, rfl⟩ := execDump_next h
  · simp at hok
  · rfl

/-- Rule R165: what is no successful DUMP keeps the snapshot. -/
theorem Answered.keeps_snapshot {i : Instr} {s t : State} (h : Answered i s t) (hi : i ≠ .dump ∨ t.respStatus ≠ 0) :
    t.dumpSlot = s.dumpSlot ∧ t.dumpLive = s.dumpLive := by
  cases h with
  | dump => simp at hi
  | failed | construct | destroy | query | write | read => exact ⟨rfl, rfl⟩

/-- Rule R237: with neither reset nor a command the edge is idle. -/
theorem step_of_idle {s : State} {p : PortSample} {rest : List PortSample} (hp : s.port = p :: rest)
    (hr : p.rst = false) (hc : p.cmdValid = false) : step s = .next (idleEdge { s with port := rest }) := by
  simp [step_cons hp, clockEdge, hr, hc]

/-! ### Settled here -/

/-- Settles O49: the live slots are those at the offsets below `cnt` from `rd`, which name different slots. -/
theorem liveSlotsAreTheQueue : Obligations.LiveSlotsAreTheQueue :=
  fun s h hl => ⟨fun i _ => slotLive_iff_emod s i, fun _ => h.slotLive_iff_offset hl, h.live_slots_length hl,
    fun hc i _ => h.slotLive_empty hl hc i, fun hc i _ => h.slotLive_full hl hc i⟩

/-- Settles O50: the second DUMP sees the registers and slots that the first one saw, which give the live mask and the
words of the written slots; only the free words differ. -/
theorem dumpTwiceAgrees : Obligations.DumpTwiceAgrees := by
  intro s hl
  refine ⟨_, _, execDump_active hl, execDump_active hl, rfl, rfl, rfl, rfl, rfl, rfl, rfl, rfl, rfl, rfl, rfl, rfl, rfl,
    fun i v hi hv => ?_⟩
  have first : snapshotWord s i = v := snapshotWord_written hi hv
  have second : snapshotWord (s.loadSnapshot.loadResponse 0 (zext32 s.cap)) i = v := snapshotWord_written hi hv
  simp only [State.loadResponse_dumpSlot, loadSnapshot_dumpSlot_getElem?, first, second]
  rfl

/-- Settles O51, by the ways a command can answer and the three kinds of edge. -/
theorem snapshotKeptByEverythingElse : Obligations.SnapshotKeptByEverythingElse := by
  refine ⟨fun i s t h => (answered_of_exec h).keeps_snapshot, fun s t p rest hp hr hc h => ?_,
    fun s t i h hok hcap hdepth => ?_, fun s t p rest hp hr h i hi => ?_⟩
  · cases (step_of_idle hp hr hc).symm.trans h
    exact ⟨rfl, rfl⟩
  · rw [execDump_ok h hok]
    exact loadSnapshot_not_live_from_cap hdepth hcap
  · cases (step_of_rst hp hr).symm.trans h
    exact List.getElem?_replicate_of_lt hi

/-- Settles O47: in ACTIVE DUMP loads the snapshot, whose entries are those of the single slots. -/
theorem dumpEffect : Obligations.DumpEffect := by
  refine ⟨decode_commandWord 7, fun s => ⟨exec_inactive nofun, fun hl => ?_⟩⟩
  obtain ⟨hslots, hbits⟩ := loadSnapshot_lengths s
  refine ⟨_, execDump_active hl, rfl, hslots, hbits, fun i hdepth => ⟨fun v hcap hv => ?_, fun hcap => ?_,
    fun hcap => ?_⟩⟩
  · exact loadSnapshot_shows_written hdepth hcap hv
  · exact (loadSnapshot_dumpLive_getElem? hdepth).trans (congrArg some (snapshotLive_below_cap hcap))
  · exact loadSnapshot_not_live_from_cap hdepth hcap

end Sys2Proof.Machine
end

section
/-!
Exceptions (60_exceptions.md): which error a command reports and why, what a failure changes, and that every command and
every edge answers in a state reached from reset.
-/

namespace Sys2Proof.Machine

/-! ### Every command and every edge answers -/

theorem Answered.respValid {i : Instr} {s t : State} (h : Answered i s t) : t.respValid = true := by
  cases h with
  | failed | construct | destroy | query | write | read | dump => rfl

/-- Under the invariant an edge gives a next state, whatever the host drives across it. -/
theorem clockEdge_answers {s : State} (h : s.Inv) (p : PortSample) : ∃ t, clockEdge p s = .next t := by
  unfold clockEdge
  split
  · exact ⟨_, rfl⟩
  · split
    · rw [if_pos h.was_reset]
      exact exec_answers h p.command
    · exact ⟨_, rfl⟩

theorem step_answers {s : State} (h : s.Inv) (p : PortSample) (rest : List PortSample) :
    ∃ t, step { s with port := p :: rest } = .next t := by
  rw [step_cons rfl]
  exact clockEdge_answers (h.withPort rest) p

/-! ### Status codes -/

/-- Rule R79: different statuses have different codes, because the host-side decoder reads each code back. -/
theorem Status.code_injective {e f : Status} (h : e.code = f.code) : e = f := by
  have hread := congrArg Status.ofCode h
  rw [e.ofCode_code, f.ofCode_code] at hread
  exact Host.Outcome.next.inj hread

theorem Status.code_toNat_le (e : Status) : e.code.toNat ≤ 5 := by
  cases e <;> decide

/-! ### The causes of the errors -/

/-- The table of rule R203, with the priorities of rule R205: command `i` in state `s` has cause to report the error `e`.
`exec_of_errorCause` and `errorCause_of_exec` tie it to `exec`, in both directions. -/
inductive ErrorCause : Instr → State → Status → Prop
  | invalidCapacity {s : State} (uninit : s.lc = .uninit) : ErrorCause (.construct 0) s .invalidCapacity
  | allocationFailure {n : Nat} {s : State} (uninit : s.lc = .uninit) (pos : n ≠ 0) (deep : s.cfg.depthMax < n) :
      ErrorCause (.construct n) s .allocationFailure
  | constructState {n : Nat} {s : State} (notUninit : s.lc ≠ .uninit) : ErrorCause (.construct n) s .invalidState
  | inactive {i : Instr} {s : State} (notConstruct : ∀ n, i ≠ .construct n) (notActive : s.lc ≠ .active) :
      ErrorCause i s .invalidState
  | bufferFull {v : Word} {s : State} (active : s.lc = .active) (full : s.cnt = s.cap) :
      ErrorCause (.write v) s .bufferFull
  | bufferEmpty {s : State} (active : s.lc = .active) (empty : s.cnt = 0) : ErrorCause .read s .bufferEmpty

/-- Rule R202: a command with cause to report an error takes it, and changes only the response registers. -/
theorem exec_of_errorCause {i : Instr} {s : State} {e : Status} (h : ErrorCause i s e) :
    exec i s = .next (s.loadResponse e.code 0) := by
  cases h with
  | invalidCapacity hl => exact execConstruct_zero hl
  | allocationFailure hl hn hdeep => exact execConstruct_tooDeep hl hn hdeep
  | constructState hl => exact execConstruct_notUninit _ hl
  | inactive hi hl => exact exec_inactive hi hl
  | bufferFull hl hc => exact execWrite_full _ hl hc
  | bufferEmpty hl hc => exact execRead_empty hl hc

/-- A command that needs ACTIVE and cannot fail there has one error. -/
theorem errorCause_of_guarded {i : Instr} {s t u : State} {data : Word} (hi : ∀ n, i ≠ .construct n)
    (h : (s.lc ≠ .active ∧ t = s.loadResponse 3 0) ∨ (s.lc = .active ∧ t = u.loadResponse 0 data))
    (herr : t.respStatus ≠ 0) : ∃ e, ErrorCause i s e ∧ t.respStatus = e.code := by
  obtain ⟨hl, rfl⟩ | ⟨-, rfl⟩ := h
  · exact ⟨_, .inactive hi hl, rfl⟩
  · exact absurd rfl herr

/-- Rule R203: no other error exists. -/
theorem errorCause_of_exec {i : Instr} {s t : State} (h : exec i s = .next t) (herr : t.respStatus ≠ 0) :
    ∃ e, ErrorCause i s e ∧ t.respStatus = e.code := by
  cases i with
  | construct n =>
    obtain ⟨hl, rfl⟩ | ⟨hl, rfl, rfl⟩ | ⟨hl, hn, hdeep, rfl⟩ | ⟨-, -, -, rfl⟩ := execConstruct_next h
    · exact ⟨_, .constructState hl, rfl⟩
    · exact ⟨_, .invalidCapacity hl, rfl⟩
    · exact ⟨_, .allocationFailure hl hn hdeep, rfl⟩
    · exact absurd rfl herr
  | write v =>
    obtain ⟨hl, rfl⟩ | ⟨hl, hc, rfl⟩ | ⟨-, -, -, -, rfl⟩ := execWrite_next h
    · exact ⟨_, .inactive nofun hl, rfl⟩
    · exact ⟨_, .bufferFull hl hc, rfl⟩
    · exact absurd rfl herr
  | read =>
    obtain ⟨hl, rfl⟩ | ⟨hl, hc, rfl⟩ | ⟨-, -, -, -, v, -, rfl⟩ := execRead_next h
    · exact ⟨_, .inactive nofun hl, rfl⟩
    · exact ⟨_, .bufferEmpty hl hc, rfl⟩
    · exact absurd rfl herr
  | destroy => exact errorCause_of_guarded nofun (execDestroy_next h) herr
  | isfull => exact errorCause_of_guarded nofun (execIsfull_next h) herr
  | isempty => exact errorCause_of_guarded nofun (execIsempty_next h) herr
  | occupancy => exact errorCause_of_guarded nofun (execOccupancy_next h) herr
  | dump => exact errorCause_of_guarded nofun (execDump_next h) herr

/-- A command that answers reports an error exactly when it has cause to. -/
theorem respStatus_eq_code_iff {i : Instr} {s t : State} (h : exec i s = .next t) {e : Status} (he : e ≠ .ok) :
    t.respStatus = e.code ↔ ErrorCause i s e := by
  constructor
  · intro hcode
    have herr : t.respStatus ≠ 0 := hcode ▸ mt e.code_eq_zero_iff.mp he
    obtain ⟨f, hcause, hf⟩ := errorCause_of_exec h herr
    rwa [Status.code_injective (hcode.symm.trans hf)]
  · intro hcause
    cases h.symm.trans (exec_of_errorCause hcause)
    rfl

/-! ### The causes, row by row -/

section Rows

variable {i : Instr} {s : State}

theorem errorCause_invalidCapacity_iff :
    ErrorCause i s .invalidCapacity ↔ i = .construct 0 ∧ s.lc = .uninit := by
  constructor
  · intro h
    cases h with
    | invalidCapacity hl => exact ⟨rfl, hl⟩
  · rintro ⟨rfl, hl⟩
    exact .invalidCapacity hl

theorem errorCause_allocationFailure_iff :
    ErrorCause i s .allocationFailure ↔ ∃ n, i = .construct n ∧ s.lc = .uninit ∧ n ≠ 0 ∧ s.cfg.depthMax < n := by
  constructor
  · intro h
    cases h with
    | allocationFailure hl hn hdeep => exact ⟨_, rfl, hl, hn, hdeep⟩
  · rintro ⟨n, rfl, hl, hn, hdeep⟩
    exact .allocationFailure hl hn hdeep

theorem errorCause_invalidState_iff :
    ErrorCause i s .invalidState ↔
      (∃ n, i = .construct n ∧ s.lc ≠ .uninit) ∨ ((∀ n, i ≠ .construct n) ∧ s.lc ≠ .active) := by
  constructor
  · intro h
    cases h with
    | constructState hl => exact .inl ⟨_, rfl, hl⟩
    | inactive hi hl => exact .inr ⟨hi, hl⟩
  · rintro (⟨n, rfl, hl⟩ | ⟨hi, hl⟩)
    · exact .constructState hl
    · exact .inactive hi hl

theorem errorCause_bufferFull_iff :
    ErrorCause i s .bufferFull ↔ ∃ v, i = .write v ∧ s.lc = .active ∧ s.cnt = s.cap := by
  constructor
  · intro h
    cases h with
    | bufferFull hl hc => exact ⟨_, rfl, hl, hc⟩
  · rintro ⟨v, rfl, hl, hc⟩
    exact .bufferFull hl hc

theorem errorCause_bufferEmpty_iff :
    ErrorCause i s .bufferEmpty ↔ i = .read ∧ s.lc = .active ∧ s.cnt = 0 := by
  constructor
  · intro h
    cases h with
    | bufferEmpty hl hc => exact ⟨rfl, hl, hc⟩
  · rintro ⟨rfl, hl, hc⟩
    exact .bufferEmpty hl hc

end Rows

/-! ### Settled here -/

/-- Settles O25: every reachable state has the invariant, under which every command and every edge answers. -/
theorem reachableAlwaysAnswers : Obligations.ReachableAlwaysAnswers := by
  intro s hreach
  have hs := hreach.inv
  refine ⟨fun i => ?_, step_answers hs, fun hl i => ⟨_, exec_destroyed i hl, rfl, rfl⟩⟩
  obtain ⟨t, ht⟩ := exec_answers hs i
  exact ⟨t, ht, (answered_of_exec ht).respValid⟩

/-- Settles O52, by the ways a command can answer: every one but the failure has status 0. -/
theorem failedCommandsChangeNothing : Obligations.FailedCommandsChangeNothing := by
  intro i s t h herr
  cases answered_of_exec h with
  | failed => rfl
  | construct | destroy | query | write | read | dump => exact absurd rfl herr

/-- Settles O53: the lifecycle check comes first in every command. -/
theorem lifecycleCheck : Obligations.LifecycleCheck := by
  refine fun i s => ⟨fun hi hl => ⟨_, exec_inactive hi hl, rfl⟩, ?_⟩
  rintro n rfl hl
  exact ⟨_, execConstruct_notUninit n hl, rfl⟩

/-- Settles O54: a status is reported exactly when the command has cause to, and each row of the table is one cause. -/
theorem errorCauses : Obligations.ErrorCauses := by
  intro i s t h
  refine ⟨(respStatus_eq_code_iff h (e := .invalidCapacity) nofun).trans errorCause_invalidCapacity_iff,
    (respStatus_eq_code_iff h (e := .allocationFailure) nofun).trans errorCause_allocationFailure_iff,
    (respStatus_eq_code_iff h (e := .invalidState) nofun).trans errorCause_invalidState_iff,
    (respStatus_eq_code_iff h (e := .bufferFull) nofun).trans errorCause_bufferFull_iff,
    (respStatus_eq_code_iff h (e := .bufferEmpty) nofun).trans errorCause_bufferEmpty_iff, fun herr => ?_⟩
  obtain ⟨e, -, hcode⟩ := errorCause_of_exec h herr
  exact ⟨hcode ▸ e.code_toNat_le, (answered_of_exec h).error_data herr⟩

end Sys2Proof.Machine
end

section
/-!
Refinement: the controller does to the abstract bounded queue what the abstract FIFO does, failure by failure and success
by success.
-/

namespace Sys2Proof.Machine

/-! ### The abstract state under every update -/

@[simp] theorem abstraction_lc (s : State) : (abstraction s).lc = s.lc := rfl

@[simp] theorem abstraction_cap (s : State) : (abstraction s).cap = s.cap := rfl

@[simp] theorem abstraction_queue (s : State) : (abstraction s).queue = queue s := rfl

@[simp] theorem abstraction_loadResponse (s : State) (c : StatusCode) (data : Word) :
    abstraction (s.loadResponse c data) = abstraction s := rfl

@[simp] theorem abstraction_loadSnapshot (s : State) : abstraction s.loadSnapshot = abstraction s := rfl

@[simp] theorem abstraction_openBuffer (s : State) (n : Nat) :
    abstraction (s.openBuffer n) = { lc := .active, cap := n, queue := [] } := by
  simp [abstraction]

@[simp] theorem abstraction_closeBuffer (s : State) :
    abstraction s.closeBuffer = { lc := .destroyed, cap := 0, queue := [] } := rfl

theorem State.Inv.abstraction_claimSlot {s : State} (h : s.Inv) (hl : s.lc = .active) (hc : s.cnt ≠ s.cap) (v : Word) :
    abstraction (s.claimSlot (s.mem.write s.wr v)) = { abstraction s with queue := queue s ++ [v] } := by
  simp [abstraction, h.queue_claimSlot hl hc]

theorem State.Inv.queue_eq_nil_iff {s : State} (h : s.Inv) : queue s = [] ↔ s.cnt = 0 := by
  rw [← List.length_eq_zero_iff, h.queue_length]

/-! ### Failures and successes -/

/-- The abstract FIFO fails when the controller has cause to, with the same error. -/
theorem ErrorCause.refines {i : Instr} {s : State} {e : Status} (hs : s.Inv) (h : ErrorCause i s e) :
    Fifo.command s.cfg.depthMax i (abstraction s) = (abstraction s, e.code, 0) := by
  cases h with
  | invalidCapacity hl => simp [Fifo.command, hl, Status.code]
  | allocationFailure hl hn hdeep => simp [Fifo.command, hl, hn, hdeep, Status.code]
  | constructState hl => simp [Fifo.command, hl, Status.code]
  | inactive hi hl =>
    cases i with
    | construct n => exact absurd rfl (hi n)
    | destroy | isfull | isempty | write | read | occupancy | dump => exact if_neg hl
  | bufferFull hl hc => simp [Fifo.command, hl, hs.queue_length, hc, Status.code]
  | bufferEmpty hl hc => simp [Fifo.command, hl, queue_eq_nil hc, Status.code]

/-- The abstract FIFO succeeds when the controller does, with the same result word. -/
theorem exec_ok_refines {i : Instr} {s t : State} (hs : s.Inv) (h : exec i s = .next t) (hok : t.respStatus = 0) :
    Fifo.command s.cfg.depthMax i (abstraction s) = (abstraction t, 0, t.respData) := by
  cases answered_of_exec h with
  | failed e he => exact absurd (e.code_eq_zero_iff.mp hok) he
  | construct hl hpos hfits =>
    simp [Fifo.command, hl, Nat.ne_of_gt hpos, Nat.not_lt.mpr hfits]
  | destroy hl => simp [Fifo.command, hl]
  | query data isQuery hl =>
    obtain rfl | rfl | rfl := isQuery
    · have hdata : data = if s.cnt = s.cap then 1 else 0 := data_of_status_ok (execIsfull_next h) hok
      simp [Fifo.command, hl, hs.queue_length, hdata]
    · have hdata : data = if s.cnt = 0 then 1 else 0 := data_of_status_ok (execIsempty_next h) hok
      simp [Fifo.command, hl, hs.queue_eq_nil_iff, hdata]
    · have hdata : data = zext32 s.cnt := data_of_status_ok (execOccupancy_next h) hok
      simp [Fifo.command, hl, hs.queue_length, hdata, zext32]
  | write hl hc => simp [Fifo.command, hl, hs.queue_length, hc, hs.abstraction_claimSlot hl hc]
  | read hl hc hv => simp [Fifo.command, abstraction, hl, hs.queue_releaseSlot hl hc hv]
  | dump hl => simp [Fifo.command, hl, zext32]

/-- The simulation step: the response and the abstract state of a command are those of the abstract FIFO. -/
theorem exec_refines {i : Instr} {s t : State} (hs : s.Inv) (h : exec i s = .next t) :
    (abstraction t, t.respStatus, t.respData) = Fifo.command s.cfg.depthMax i (abstraction s) := by
  by_cases hok : t.respStatus = 0
  · rw [exec_ok_refines hs h hok, hok]
  · obtain ⟨e, hcause, -⟩ := errorCause_of_exec h hok
    cases h.symm.trans (exec_of_errorCause hcause)
    rw [hcause.refines hs]
    rfl

/-! ### Settled here -/

/-- Settles O22: each kind of edge keeps the invariant, and so does each way a command can answer. -/
theorem stepKeepsInvariant : Obligations.StepKeepsInvariant :=
  fun _ _ => step_keeps_inv

/-- Settles O60: every command answers, keeps the invariant, and simulates the abstract FIFO. -/
theorem controllerRefinesBoundedQueue : Obligations.ControllerRefinesBoundedQueue := by
  intro i s hs
  obtain ⟨t, h⟩ := exec_answers hs i
  exact ⟨t, h, exec_keeps_inv hs h, (answered_of_exec h).respValid, exec_refines hs h⟩

end Sys2Proof.Machine
end

section
/-!
The encoder and the decoder against each other, and the formats of a command word and of a response word.
-/

namespace Sys2Proof.Machine

/-! ### The decoder on an encoded command -/

theorem decode_encode_fields (i : Instr) : decode (encode i) = decodeFields (opcodeOf i) (argOf i) :=
  decode_commandWord _ _

/-- Rule R72: a well-formed capacity survives the operand field. -/
theorem capacityOperand_capacityArg {n : Nat} (h : n < 2 ^ 32) : capacityOperand (capacityArg n) = n := by
  rw [capacityOperand, capacityArg, BitVec.toNat_ofNat, Nat.mod_eq_of_lt h]

theorem capacityArg_capacityOperand (arg : Word) : capacityArg (capacityOperand arg) = arg :=
  (BitVec.ofNat_toNat 32 arg).trans (BitVec.setWidth_eq arg)

/-- Decoding inverts encoding on the well-formed commands. -/
theorem decode_encode {i : Instr} (h : i.wellFormed = true) : decode (encode i) = i := by
  rw [decode_encode_fields]
  cases i with
  | construct n => exact congrArg Instr.construct (capacityOperand_capacityArg (of_decide_eq_true h))
  | destroy | isfull | isempty | write | read | occupancy | dump => rfl

/-! ### The encoder on a decoded word -/

/-- Rule R75: every opcode and operand is a well-formed command. -/
theorem decodeFields_wellFormed (op : Opcode) (arg : Word) : (decodeFields op arg).wellFormed = true := by
  obtain ⟨op⟩ := op
  fin_cases op
  · exact decide_eq_true arg.isLt
  all_goals rfl

/-- Rules R71 and R72: CONSTRUCT and WRITE keep their operand. -/
theorem argOf_decodeFields_operand {op : Opcode} (arg : Word) (h : op = 0 ∨ op = 4) :
    argOf (decodeFields op arg) = arg := by
  obtain rfl | rfl := h
  · exact capacityArg_capacityOperand arg
  · rfl

/-- Rule R73: the other six commands have operand field 0. -/
theorem argOf_decodeFields_ignored {op : Opcode} (arg : Word) (h0 : op ≠ 0) (h4 : op ≠ 4) :
    argOf (decodeFields op arg) = 0 := by
  obtain ⟨op⟩ := op
  fin_cases op
  · exact absurd rfl h0
  · rfl
  · rfl
  · rfl
  · exact absurd rfl h4
  · rfl
  · rfl
  · rfl

/-- Encoding what a word decodes to keeps the opcode; the operand is that of the decoded command. -/
theorem encode_decode (w : CommandWord) : encode (decode w) = commandWord (opField w) (argOf (decode w)) := by
  rw [encode, decode, opcodeOf_decodeFields]

/-! ### Settled here -/

/-- Settles O5, by cases on the command: only CONSTRUCT's operand has to fit its field. -/
theorem decodeAfterEncode : Obligations.DecodeAfterEncode :=
  fun _ => decode_encode

/-- Settles O6: the re-encoded word has the opcode of the word, and the operand that the opcode keeps or ignores. -/
theorem encodeAfterDecode : Obligations.EncodeAfterDecode := by
  intro w
  refine ⟨decodeFields_wellFormed _ _, ?_, fun h => ?_, fun h0 h4 => ?_⟩
  · rw [encode_decode, opField_commandWord]
  · rw [encode_decode, decode, argOf_decodeFields_operand _ h, commandWord_fields]
  · rw [encode_decode, argField_commandWord, decode, argOf_decodeFields_ignored _ h0 h4]

/-- Settles O3: appending places the opcode above the 32 operand bits, and a word is its two fields. -/
theorem commandWordFormat : Obligations.CommandWordFormat :=
  ⟨commandWord_toNat, commandWord_fields⟩

/-- Settles O7: a response word is laid out as a command word is, with the status in the place of the opcode. -/
theorem responseWordFormat : Obligations.ResponseWordFormat :=
  fun s => ⟨commandWord_toNat s.respStatus s.respData, fun h => if_pos h, fun h => if_neg (by simp [h])⟩

end Sys2Proof.Machine
end

section
/-!
The step and the port: what an edge with a command does and when it stops, what no command touches or sees, and the run on
the samples that present a list of commands.
-/

namespace Sys2Proof.Machine

/-! ### An edge that presents a command, and the end of the samples -/

theorem step_nil {s : State} (hp : s.port = []) : step s = .refused .endOfRun := by
  simp [step, stepOnce, hp]

theorem step_of_command {s : State} {p : PortSample} {rest : List PortSample} (hp : s.port = p :: rest)
    (hr : p.rst = false) (hc : p.cmdValid = true) (hw : s.wasReset = true) :
    step s = exec p.command { s with port := rest } := by
  simp [step_cons hp, clockEdge, hr, hc, hw]

/-- Rule R233: before the first reset a command is refused. -/
theorem step_of_command_before_reset {s : State} {p : PortSample} {rest : List PortSample} (hp : s.port = p :: rest)
    (hr : p.rst = false) (hc : p.cmdValid = true) (hw : s.wasReset = false) : step s = .refused .neverReset := by
  simp [step_cons hp, clockEdge, hr, hc, hw]

@[simp] theorem PortSample.ofWord_command (w : CommandWord) : (PortSample.ofWord w).command = decode w :=
  congrArg decode (commandWord_fields w)

/-- The step of a state in which the host presents the word `w`. -/
theorem step_present {s : State} (w : CommandWord) (hw : s.wasReset = true) :
    step (s.present w) = exec (decode w) { s with port := s.port.tail } := by
  rw [step_of_command (State.present_port s w) rfl rfl hw, PortSample.ofWord_command]
  rfl

/-! ### The decoder on plain numbers -/

theorem decodeNumber_word {w : Nat} (h : w < 2 ^ 35) : decodeNumber w = .ok (decode (BitVec.ofNat 35 w)) := if_pos h

theorem decodeNumber_tooLarge {w : Nat} (h : 2 ^ 35 ≤ w) : decodeNumber w = .error .notACommandWord :=
  if_neg (Nat.not_lt.mpr h)

/-- A number that fits its bits is decoded as a plain number. -/
theorem decodeTableWord_of_lt {nbits w : Nat} (h : w < 2 ^ nbits) :
    decodeTableWord nbits w = (decodeNumber w).toOption := by
  rw [decodeTableWord, Nat.mod_eq_of_lt h]
  cases decodeNumber w <;> rfl

/-! ### Which stops a command can make -/

theorem whenActive_refused {s : State} {body : Host.Outcome State Fault Refusal} {r : Refusal}
    (h : whenActive s body = .refused r) : body = .refused r := by
  by_cases hl : s.lc = .active
  · rwa [whenActive_active hl] at h
  · simp [whenActive_inactive hl] at h

/-- An access that is followed by a response is refused only by itself. -/
theorem andThen_respond_refused {α : Type} {x : Host.Outcome α Fault Refusal} {e : Status} {data : α → Word}
    {u : α → State} {r : Refusal} (h : andThen x (fun a => respond e (data a) (u a)) = .refused r) : x = .refused r := by
  cases x with
  | next a => simp [andThen] at h
  | fault => simp [andThen] at h
  | refused r' => simpa [andThen] using h

theorem slotWrite_refused {i : Nat} {v : Word} {s : State} {r : Refusal} (h : slotWrite i v s = .refused r) :
    r = .slotBeyondCapacity := by
  unfold slotWrite at h
  split at h
  · cases h
    rfl
  · split at h <;> cases h

theorem slotRead_refused {i : Nat} {s : State} {r : Refusal} (h : slotRead i s = .refused r) :
    r = .slotBeyondCapacity := by
  unfold slotRead at h
  split at h
  · cases h
    rfl
  · split at h
    · cases h
    · split at h <;> cases h

/-- Rule R53 has the one refusal that a command can make, from any state. -/
theorem exec_refused {i : Instr} {s : State} {r : Refusal} (h : exec i s = .refused r) : r = .slotBeyondCapacity := by
  cases i with
  | construct n =>
    obtain ⟨t, ht⟩ := execConstruct_answers n s
    cases h.symm.trans ht
  | write v =>
    have hbody := whenActive_refused h
    split at hbody
    · cases hbody
    · exact slotWrite_refused (andThen_respond_refused (data := fun _ => 0) hbody)
  | read =>
    have hbody := whenActive_refused h
    split at hbody
    · cases hbody
    · exact slotRead_refused (andThen_respond_refused (data := id) hbody)
  | destroy | isfull | isempty | occupancy | dump => exact nomatch whenActive_refused h

/-- An edge never ends the run: it is refused only before the first reset, or by rule R53. -/
theorem clockEdge_refused {p : PortSample} {s : State} {r : Refusal} (h : clockEdge p s = .refused r) :
    r = .neverReset ∨ r = .slotBeyondCapacity := by
  unfold clockEdge at h
  split at h
  · cases h
  · split at h
    · split at h
      · exact .inr (exec_refused h)
      · cases h
        exact .inl rfl
    · cases h

/-! ### What no command touches -/

/-- The model's own fields: the parameter, the reset mark and the samples. -/
theorem Answered.keeps_own {i : Instr} {s t : State} (h : Answered i s t) :
    t.cfg = s.cfg ∧ t.wasReset = s.wasReset ∧ t.port = s.port := by
  cases h with
  | failed | construct | destroy | query | write | read | dump => exact ⟨rfl, rfl, rfl⟩

/-- The state with other bits in the response registers and other samples still to come. -/
def State.withPorts (s : State) (valid : Bool) (c : StatusCode) (data : Word) (ps : List PortSample) : State :=
  { s with respValid := valid, respStatus := c, respData := data, port := ps }

/-- A command sees neither the response registers nor what the host drives next: whatever these hold, it leaves the same
state, with the samples it found. -/
theorem exec_withPorts {i : Instr} {s t : State} (h : exec i s = .next t) (valid : Bool) (c : StatusCode) (data : Word)
    (ps : List PortSample) : exec i (s.withPorts valid c data ps) = .next { t with port := ps } := by
  cases i with
  | construct n =>
    obtain ⟨hl, rfl⟩ | ⟨hl, rfl, rfl⟩ | ⟨hl, hn, hdeep, rfl⟩ | ⟨hl, hpos, hfits, rfl⟩ := execConstruct_next h
    · exact execConstruct_notUninit n hl
    · exact execConstruct_zero hl
    · exact execConstruct_tooDeep hl hn hdeep
    · exact execConstruct_success hl hpos hfits
  | write v =>
    obtain ⟨hl, rfl⟩ | ⟨hl, hc, rfl⟩ | ⟨hl, hc, hcap, hdepth, rfl⟩ := execWrite_next h
    · exact exec_inactive nofun hl
    · exact execWrite_full v hl hc
    · exact execWrite_notFull v hl hc hcap hdepth
  | read =>
    obtain ⟨hl, rfl⟩ | ⟨hl, hc, rfl⟩ | ⟨hl, hc, hcap, hdepth, v, hv, rfl⟩ := execRead_next h
    · exact exec_inactive nofun hl
    · exact execRead_empty hl hc
    · exact execRead_notEmpty hl hc hcap hdepth hv
  | destroy | isfull | isempty | occupancy | dump =>
    obtain ⟨hl, rfl⟩ | ⟨hl, hbody⟩ := whenActive_next h
    · exact exec_inactive nofun hl
    · cases hbody
      exact if_pos hl

/-! ### A run on the samples that present commands -/

theorem step_presenting {i : Instr} (hi : i.wellFormed = true) {s : State}
    (hw : s.wasReset = true) (rest : List PortSample) :
    step { s with port := presenting i :: rest } = exec i { s with port := rest } := by
  rw [step_of_command (s := { s with port := presenting i :: rest }) rfl rfl rfl hw, presenting,
    PortSample.ofWord_command, decode_encode hi]

/-- The run is the list of meanings: each step performs the next command, which does not see the samples behind it. -/
theorem run_presenting {is : List Instr} (hwf : ∀ i ∈ is, i.wellFormed = true) {rest : List PortSample} {s t : State}
    {rs : List (StatusCode × Word)} (hw : s.wasReset = true) (hp : s.port = rest) (h : answers is s = some (rs, t)) :
    Host.Core.run Sys2Proof.core is.length { s with port := is.map presenting ++ rest } = .next t ∧ t.port = rest := by
  induction is generalizing s rs with
  | nil =>
    cases h
    subst hp
    exact ⟨rfl, rfl⟩
  | cons i is ih =>
    obtain ⟨hi, hwf⟩ := List.forall_mem_cons.mp hwf
    obtain ⟨u, rest', hexec, hrest, -⟩ := exec_of_answers_cons h
    obtain ⟨-, hreset, hport⟩ := (answered_of_exec hexec).keeps_own
    have hstep : step { s with port := presenting i :: (is.map presenting ++ rest) } =
        .next { u with port := is.map presenting ++ rest } :=
      (step_presenting hi hw _).trans (exec_withPorts hexec _ _ _ _)
    exact run_next hstep ▸ ih hwf (hreset.trans hw) (hport.trans hp) hrest

/-! ### Settled here -/

/-- Settles O12: the edge performs the command that the sample presents. -/
theorem stepRunsDecodedCommand : Obligations.StepRunsDecodedCommand :=
  fun _ _ _ => step_of_command

/-- Settles O13: the presented sample carries the word's two fields, and the decoder splits the numbers at 2^35. -/
theorem fetchWordIsRunNext : Obligations.FetchWordIsRunNext := by
  intro s nbits w hw
  rw [decodeTableWord_of_lt hw, State.withFetchWord, Nat.mod_eq_of_lt hw]
  refine ⟨fun hword => ?_, fun hlarge => ?_⟩
  · rw [decodeNumber_word hword]
    exact ⟨rfl, rfl, step_present _⟩
  · rw [decodeNumber_tooLarge hlarge]
    exact ⟨rfl, rfl⟩

/-- Settles O15, by the law of the idle edge. -/
theorem idleEdgeOnlyClearsValid : Obligations.IdleEdgeOnlyClearsValid :=
  fun _ _ _ => step_of_idle

/-- Settles O16, by the three kinds of edge. -/
theorem commandBeforeResetRefused : Obligations.CommandBeforeResetRefused :=
  fun _ _ _ hp hw => ⟨fun hr hc => step_of_command_before_reset hp hr hc hw, fun hr => ⟨_, step_of_rst hp hr, rfl⟩,
    fun hr hc => ⟨_, step_of_idle hp hr hc, hw⟩⟩

/-- Settles O17: with a sample left the step is an edge, and no edge ends the run. -/
theorem runEndsWithTheHostsList : Obligations.RunEndsWithTheHostsList := by
  refine fun s => ⟨step_nil, fun hne hend => ?_⟩
  obtain ⟨p, rest, hp⟩ := List.exists_cons_of_ne_nil hne
  rw [step_cons hp] at hend
  obtain hr | hr := clockEdge_refused hend <;> cases hr

/-- Settles O18, by the three kinds of edge: only a command sets `resp_valid`. -/
theorem responseLastsOneCycle : Obligations.ResponseLastsOneCycle := by
  intro s t p rest hp h
  rw [step_cons hp] at h
  obtain ⟨hr, rfl⟩ | ⟨hr, hc, -, hexec⟩ | ⟨hr, hc, rfl⟩ := clockEdge_next h
  · simp [hr]
  · obtain ⟨hcfg, -, hport⟩ := (answered_of_exec hexec).keeps_own
    exact ⟨by simp [hr, hc, (answered_of_exec hexec).respValid], hport, hcfg⟩
  · simp [hr, hc]

/-- Settles O19, by induction on the list of commands. -/
theorem commandStreamRunsInOrder : Obligations.CommandStreamRunsInOrder :=
  fun _ s _ _ rest hwf hw h => run_presenting (s := { s with port := rest }) hwf hw rfl h

end Sys2Proof.Machine
end

section
/-!
The reset state and its invariant, the assertions on the cursors, the free words of a snapshot, and what a command leaves
unchanged.
-/

namespace Sys2Proof.Machine

/-! ### The reset state -/

/-- The model's reset state is what a reset edge leaves in the standard build. -/
theorem reset_eq_resetEdge : State.reset = resetEdge { State.reset with draws := 0 } := rfl

/-! ### The assertions on the cursors -/

/-- Rule R53: a WRITE or READ whose cursor is at or above `cap`. -/
theorem slotWrite_beyondCapacity {i : Nat} {s : State} (v : Word) (h : s.cap ≤ i) :
    slotWrite i v s = .refused .slotBeyondCapacity := if_pos h

theorem slotRead_beyondCapacity {i : Nat} {s : State} (h : s.cap ≤ i) :
    slotRead i s = .refused .slotBeyondCapacity := if_pos h

/-- Rule R50: a slot index at or above DEPTH_MAX names no slot. -/
theorem slotWrite_absent {i : Nat} {s : State} (v : Word) (hcap : i < s.cap) (h : s.cfg.depthMax ≤ i) :
    slotWrite i v s = .fault .slotAbsent := by
  rw [slotWrite, if_neg (Nat.not_le.mpr hcap), if_pos h]

theorem slotRead_absent {i : Nat} {s : State} (hcap : i < s.cap) (h : s.cfg.depthMax ≤ i) :
    slotRead i s = .fault .slotAbsent := by
  rw [slotRead, if_neg (Nat.not_le.mpr hcap), if_pos h]

/-- In ACTIVE a WRITE with room does what its slot access does, and stops where that stops. -/
theorem execWrite_eq_andThen {s : State} (v : Word) (hl : s.lc = .active) (hc : s.cnt ≠ s.cap) :
    execWrite v s = andThen (slotWrite s.wr v s) fun m => respond .ok 0 (s.claimSlot m) := by
  rw [execWrite, whenActive_active hl, if_neg (mt (isFull_iff_cnt s).mp hc)]

theorem execRead_eq_andThen {s : State} (hl : s.lc = .active) (hc : s.cnt ≠ 0) :
    execRead s = andThen (slotRead s.rd s) fun v => respond .ok v s.releaseSlot := by
  rw [execRead, whenActive_active hl, if_neg (mt (isEmpty_iff_cnt s).mp hc)]


/-! ### Free words -/

theorem freeWords_getElem? {d n i : Nat} (hi : i < n) : (freeWords d n)[i]? = some (Config.freeWord (d + i)) := by
  simp [freeWords, hi]

/-- Rules R161 and R165: a slot from `cap` up, or never written, shows a draw of its own. -/
theorem snapshotWord_unwritten {s : State} {i : Nat} (h : s.cap ≤ i ∨ s.mem.read i = none) :
    snapshotWord s i = Config.freeWord (s.draws + i) := by
  obtain hcap | hread := h
  · exact if_neg (Nat.not_lt.mpr hcap)
  · simp [snapshotWord, hread]

/-! ### Commands that change the response registers only -/

/-- A query, and a command that failed, loads the response registers and changes nothing else. -/
theorem Answered.response_only {i : Instr} {s t : State} (h : Answered i s t)
    (hi : i = .isfull ∨ i = .isempty ∨ i = .occupancy ∨ t.respStatus ≠ 0) :
    t = s.loadResponse t.respStatus t.respData := by
  cases h with
  | failed | query => rfl
  | construct | destroy | write | read | dump => simp at hi

/-- A command that changed the response registers only gives the same answer again. -/
theorem exec_again {i : Instr} {s t : State} (h : exec i s = .next t) (ht : t = s.loadResponse t.respStatus t.respData) :
    exec i t = .next t := by
  obtain ⟨-, -, hport⟩ := (answered_of_exec h).keeps_own
  calc exec i t
      = exec i (s.withPorts true t.respStatus t.respData s.port) := congrArg (exec i) ht
    _ = .next { t with port := s.port } := exec_withPorts h _ _ _ _
    _ = .next t := by rw [← hport]

/-! ### Settled here -/

/-- Settles O20: the reset state is that of a reset edge. -/
theorem resetStateValues : Obligations.ResetStateValues := by
  have hl : State.reset.lc ≠ .active := by decide
  exact ⟨rfl, rfl, rfl, rfl, rfl, Memory.read_nil, reset_mem_wf, rfl, rfl, rfl,
    fun i hi => List.getElem?_replicate_of_lt hi, freeWords_length _ _, fullO_eq_false hl, emptyO_eq_false hl,
    activeO_eq_false hl, countO_eq_zero rfl⟩

/-- Settles O21: a reset edge establishes the invariant, and the model's reset state is one a reset edge leaves. -/
theorem resetEstablishesInvariant : Obligations.ResetEstablishesInvariant :=
  ⟨reset_eq_resetEdge ▸ resetEdge_inv (by decide), fun _ => resetEdge_inv⟩

/-- Settles O39: with room, or an element, a command does what its slot access does; under the invariant it answers. -/
theorem slotAssertions : Obligations.SlotAssertions := by
  refine ⟨fun v s hl hc => ?_, fun s hl hc => ?_, fun i s hs => exec_answers hs i⟩
  · rw [exec_write, execWrite_eq_andThen v hl hc]
    refine ⟨fun hcap => ?_, fun hcap hdepth => ?_⟩
    · rw [slotWrite_beyondCapacity v hcap, andThen]
    · rw [slotWrite_absent v hcap hdepth, andThen]
  · rw [exec_read, execRead_eq_andThen hl hc]
    refine ⟨fun hcap => ?_, fun hcap hdepth => ?_⟩
    · rw [slotRead_beyondCapacity hcap, andThen]
    · rw [slotRead_absent hcap hdepth, andThen]

/-- Settles O48: the snapshot's entry of such a slot is the free word of its own number. -/
theorem unwrittenSlotsShowFreshDraws : Obligations.UnwrittenSlotsShowFreshDraws := by
  refine ⟨fun s hl => ⟨_, execDump_active hl, rfl, fun i hi hopen => ?_⟩,
    fun s p rest hp hr => ⟨_, step_of_rst hp hr, rfl, fun i => freeWords_getElem?⟩⟩
  rw [State.loadResponse_dumpSlot, loadSnapshot_dumpSlot_getElem?, if_pos hi, snapshotWord_unwritten hopen]

/-- Settles O56: the command changed the response registers only, which it does not see when it is run again. -/
theorem queriesAndFailuresAreIdempotent : Obligations.QueriesAndFailuresAreIdempotent := by
  intro i s t h hi
  have ht := (answered_of_exec h).response_only hi
  refine ⟨exec_again h ht, ?_⟩
  rw [ht]
  exact ⟨rfl, rfl, rfl, rfl, rfl, rfl⟩

/-- Settles O57, by the ways a command can answer: a failure and a query write none of these, DUMP only draws, and each
other success writes what its clauses name it for. -/
theorem registersWrittenOnlyByTheirCommands : Obligations.RegistersWrittenOnlyByTheirCommands := by
  intro i s t h
  cases answered_of_exec h with
  | failed | query => simp
  | dump => simp
  | construct | destroy => simp
  | write => simp
  | read => simp

end Sys2Proof.Machine
end

section
/-!
The text of a command: how a line of words is read, that the reader takes in the operands the writer writes, and which
words it takes for a command.
-/

namespace Sys2Proof.Machine

/-! ### Words of a line -/

/-- A word of a line: not empty, and without a mark. -/
def IsWord (w : List Char) : Prop := w ≠ [] ∧ ∀ c ∈ w, c ∉ lineMarks

theorem isWord_mnemonicText (i : Instr) : IsWord (mnemonicText i) := mnemonicText_is_a_word i

theorem IsWord.ne_arrowText {w : List Char} (h : IsWord w) : w ≠ arrowText := by
  rintro rfl
  exact h.2 '-' (by decide) (by decide)

/-- A mark of a line stands in no word of it. -/
theorem IsWord.mark_not_mem {w : List Char} (h : IsWord w) {c : Char} (hc : c ∈ lineMarks) : c ∉ w :=
  fun hmem => h.2 c hmem hc

/-- Characters without a blank among them are taken into the current word. -/
theorem splitWords_append {cs : List Char} (h : ∀ c ∈ cs, c ∉ lineMarks) (word rest : List Char) :
    splitWords word (cs ++ rest) = splitWords (cs.reverse ++ word) rest := by
  induction cs generalizing word with
  | nil => rfl
  | cons c cs ih =>
    obtain ⟨hc, hcs⟩ := List.forall_mem_cons.mp h
    have hblank : ¬ (c = ' ' ∨ c = '\t') := by
      rintro (rfl | rfl) <;> simp at hc
    rw [List.cons_append, splitWords, if_neg hblank, ih hcs]
    simp

theorem splitWords_one {m : List Char} (hm : IsWord m) : splitWords [] m = [m] := by
  have hread := splitWords_append hm.2 [] []
  simpa [splitWords, hm.1] using hread

theorem splitWords_two {m x : List Char} (hm : IsWord m) (hx : IsWord x) : splitWords [] (m ++ ' ' :: x) = [m, x] := by
  rw [splitWords_append hm.2]
  simp [splitWords, hm.1, splitWords_one hx]

/-! ### Lines without a comment or an expected response -/

/-- What is read of a line with no `;` and no `->` is what its words are read as. -/
theorem readLine_of_words {line : List Char} {words : List (List Char)} {i : Instr} (hcomment : ';' ∉ line)
    (hsplit : splitWords [] line = words) (hwords : ∀ w ∈ words, IsWord w) (h : readCommand words = some i) :
    readLine line = some (i, none) := by
  have hline : line.takeWhile (· ≠ ';') = line :=
    List.takeWhile_eq_self_iff.mpr fun c hc => decide_eq_true (ne_of_mem_of_not_mem hc hcomment)
  have harrow : ∀ w ∈ words, decide (w ≠ arrowText) = true := fun w hw => decide_eq_true (hwords w hw).ne_arrowText
  have htake : words.takeWhile (· ≠ arrowText) = words := List.takeWhile_eq_self_iff.mpr harrow
  have hdrop : words.dropWhile (· ≠ arrowText) = [] := List.dropWhile_eq_nil_iff.mpr harrow
  simp only [readLine, hline, hsplit, htake, hdrop, h]

theorem readLine_one {m : List Char} {i : Instr} (hm : IsWord m) (h : readCommand [m] = some i) :
    readLine m = some (i, none) :=
  readLine_of_words (hm.mark_not_mem (by decide)) (splitWords_one hm) (by simpa using hm) h

theorem readLine_two {m x : List Char} {i : Instr} (hm : IsWord m) (hx : IsWord x) (h : readCommand [m, x] = some i) :
    readLine (m ++ ' ' :: x) = some (i, none) := by
  have hcomment : ';' ∉ m ++ ' ' :: x := by
    simp [hm.mark_not_mem (c := ';') (by decide), hx.mark_not_mem (c := ';') (by decide)]
  exact readLine_of_words hcomment (splitWords_two hm hx) (by simpa using ⟨hm, hx⟩) h

/-! ### Operands -/

/-- Every character the digit writer writes is a digit, and so no mark and no `_`. -/
theorem hexDigits_not_mark (n k : Nat) : ∀ c ∈ hexDigits n k, c ∉ '_' :: lineMarks := by
  induction k with
  | zero => simp [hexDigits]
  | succ k ih => exact List.forall_mem_cons.mpr ⟨(digitValue_of_written_digit _ (Nat.mod_lt _ (by decide))).2, ih⟩

/-- The reader takes in the last `k` digits of `n`, after the digits that gave `acc`. -/
theorem readDigits_hexDigits (n k acc : Nat) :
    readDigits 16 acc (hexDigits n k) = some (acc * 16 ^ k + n % 16 ^ k) := by
  induction k generalizing acc with
  | zero => simp [hexDigits, readDigits, Nat.mod_one]
  | succ k ih =>
    have hlt : n / 16 ^ k % 16 < 16 := Nat.mod_lt _ (by decide)
    simp only [hexDigits, readDigits, (digitValue_of_written_digit _ hlt).1, if_pos hlt, ih]
    rw [Nat.mod_pow_succ]
    congr 1
    ring

theorem readLiteral_operandText (n : Nat) : readLiteral (operandText n) = some (n % 2 ^ 32) := by
  have hfilter : (hexDigits n 8).filter (· ≠ '_') = hexDigits n 8 :=
    List.filter_eq_self.mpr fun c hc => decide_eq_true (List.ne_of_not_mem_cons (hexDigits_not_mark n 8 c hc))
  rw [operandText, readLiteral, hfilter]
  exact (readDigits_hexDigits n 8 0).trans (by simp)

theorem readOperand_operandText {n : Nat} (h : n < 2 ^ 32) : readOperand (operandText n) = some n := by
  rw [readOperand, readLiteral_operandText, Nat.mod_eq_of_lt h]
  exact if_pos h

theorem isWord_operandText (n : Nat) : IsWord (operandText n) := by
  refine ⟨List.cons_ne_nil _ _, List.forall_mem_cons.mpr ⟨by decide, List.forall_mem_cons.mpr ⟨by decide, ?_⟩⟩⟩
  exact fun c hc => List.not_mem_of_not_mem_cons (hexDigits_not_mark n 8 c hc)

/-- Rule R81: an operand is below 2^32. -/
theorem readOperand_lt {x : List Char} {n : Nat} (h : readOperand x = some n) : n < 2 ^ 32 := by
  unfold readOperand at h
  split at h
  · split at h
    · cases h
      assumption
    · cases h
  · cases h

/-! ### Which words are a command -/

theorem readCommand_construct {x : List Char} {n : Nat} (h : readOperand x = some n) :
    readCommand [mnemonicText (.construct n), x] = some (.construct n) := by
  simp [readCommand, h]

theorem readCommand_write {x : List Char} {v : Word} (h : readOperand x = some v.toNat) :
    readCommand [mnemonicText (.write v), x] = some (.write v) := by
  have hne : mnemonicText (.write v) ≠ mnemonicText (.construct v.toNat) :=
    mt (mnemonicText_eq_iff _ _).mp (by simp [opcodeOf])
  simp [readCommand, h, hne]

/-- A command read from one word is that mnemonic's. -/
theorem readCommand_one {m : List Char} {i : Instr} (h : readCommand [m] = some i) :
    m = mnemonicText i ∧ i.wellFormed = true := by
  simp only [readCommand] at h
  repeat' split at h
  all_goals cases h
  all_goals exact ⟨‹_›, rfl⟩

/-- A command read from two words is a CONSTRUCT or a WRITE. -/
theorem readCommand_two {m x : List Char} {i : Instr} (h : readCommand [m, x] = some i) :
    m = mnemonicText i ∧ i.wellFormed = true ∧ (opcodeOf i = 0 ∨ opcodeOf i = 4) := by
  cases hx : readOperand x with
  | none => simp [readCommand, hx] at h
  | some n =>
    simp only [readCommand, hx] at h
    split at h
    · cases h
      exact ⟨‹_›, decide_eq_true (readOperand_lt hx), .inl rfl⟩
    · split at h
      · cases h
        exact ⟨‹_›, rfl, .inr rfl⟩
      · cases h

/-- Rule R82: an operand after the mnemonic of a command that ignores it makes no command. -/
theorem readCommand_operand_on_ignoring {i : Instr} (h0 : opcodeOf i ≠ 0) (h4 : opcodeOf i ≠ 4) (x : List Char) :
    readCommand [mnemonicText i, x] = none := by
  refine Option.eq_none_iff_forall_ne_some.mpr fun j hj => ?_
  obtain ⟨hname, -, hop⟩ := readCommand_two hj
  rw [← (mnemonicText_eq_iff i j).mp hname] at hop
  exact hop.elim h0 h4

/-! ### Settled here -/

/-- Settles O10: the line has one word, or two of which the second is an operand that reads back. -/
theorem commandTextReadsBack : Obligations.CommandTextReadsBack := by
  intro i h
  cases i with
  | construct n =>
    have hn := readOperand_operandText (of_decide_eq_true h)
    exact readLine_two (isWord_mnemonicText _) (isWord_operandText n) (readCommand_construct hn)
  | write v =>
    have hv := readOperand_operandText v.isLt
    exact readLine_two (isWord_mnemonicText _) (isWord_operandText v.toNat) (readCommand_write hv)
  | destroy | isfull | isempty | read | occupancy | dump =>
    rw [commandText]
    exact readLine_one (isWord_mnemonicText _) (by decide)

/-- Settles O11, by the number of words. -/
theorem commandTextSyntax : Obligations.CommandTextSyntax := by
  refine ⟨fun words i h => ?_, fun x => ?_⟩
  · match words with
    | [] => cases h
    | [m] =>
      obtain ⟨rfl, hwf⟩ := readCommand_one h
      exact ⟨rfl, hwf⟩
    | [m, x] =>
      obtain ⟨rfl, hwf, -⟩ := readCommand_two h
      exact ⟨rfl, hwf⟩
    | _ :: _ :: _ :: _ => cases h
  · refine ⟨?_, ?_, ?_, ?_, ?_, ?_⟩
    all_goals exact readCommand_operand_on_ignoring (by decide) (by decide) x

end Sys2Proof.Machine
end
